-- ==== Sys2Proof/Word.lean ====
section
/-! DEFINITION. The plain types of the CH-46: bytes, the words the manual numbers as bits, and the bounded
numbers that name lanes, slots, bins and classes. -/

namespace Sys2Proof

/-- A byte of a serial link (R155). -/
abbrev Byte := BitVec 8

/-- A belt position: the 16-bit encoder count or a due, which wrap from 65,535 to 0 (R3, R67). -/
abbrev Count := BitVec 16

/-- The 16-bit issue serial, which wraps from 65,535 to 0 (R119). -/
abbrev Serial := BitVec 16

/-- The 48-bit article key or mask of a recognition entry (R18). -/
abbrev ArticleKey := BitVec 48

/-- A lane, 0–3 (R36). -/
abbrev LaneId := Fin 4

/-- A voucher slot, 0–127 (R116). -/
abbrev SlotId := Fin 128

/-- A bin; bin `b` stands behind chute `b + 1`, so chutes 1–7 (R98). -/
abbrev BinId := Fin 7

/-- A tariff class, 0–31 (R22). -/
abbrev ClassId := Fin 32

/-- An index of the recognition table, 0–63 (R18). -/
abbrev EntryId := Fin 64

end Sys2Proof
end

