-- ==== Sys2Proof/Syntax.lean ====
section
/-! DEFINITION. The commands of the CH-46: one constructor of `Instr` per row of spec/opcode_table.json, with the
row's operands.  Request commands stand for the completion of their frame (R156): their operands are the fields of the
frame's body in the layout of R169 to R171, as received, so a field may be out of range. -/

namespace Sys2Proof

/-- One of the six serial links (Introduction 1.2). -/
inductive Link where
  | lane (k : LaneId)
  | checkout
  | office
  deriving DecidableEq, Repr

/-- The order in which the jam watch, the Gate Matcher and the Merge Arbiter take one advance of the encoder count.
R4 and R73 leave the order open, so the command carries it and every order is allowed. -/
inductive AdvanceOrder where
  | jamGateMerge
  | jamMergeGate
  | gateJamMerge
  | gateMergeJam
  | mergeJamGate
  | mergeGateJam
  deriving DecidableEq, Repr

/-- What a start began by (R146, column "Start began by"). -/
inductive StartOrigin where
  | powerOn
  | resetRelease
  deriving DecidableEq, Repr

/-- The line levels and comparators that a start reads (R8, R9, R146, R152, R153). -/
structure StartLines where
  eyeBlocked    : Bool
  estopPressed  : Bool
  supwarn       : Bool
  backupLow     : Bool
  backupLost    : Bool
  deriving DecidableEq, Repr

/-- The container report as its ten body bytes carry it (Table 2-3, R169). -/
structure RawReport where
  keyPresent : Byte
  key        : ArticleKey
  weight     : BitVec 16
  shapeOk    : Byte
  deriving DecidableEq, Repr

/-- The fields of a PLAN-STAGE body after the part selector, as received; the constructor is the body length, 14, 6 or
8 bytes with the selector (R136, R171). -/
inductive RawPart where
  | globalPart (gap : BitVec 16) (tolerance holdMark releaseMark : Byte) (claimWait : BitVec 16) (settle : BitVec 24)
      (jamLength : BitVec 16) (rejectLimit : Byte)
  | lanePart (mode : Byte) (offset : BitVec 16) (dropLead materials : Byte)
  | binPart (service material : Byte) (capacity : BitVec 16) (ratio : Byte) (warningMark : BitVec 16)
  deriving DecidableEq, Repr

/-- A command of the CH-46, one constructor per row of the opcode table. -/
inductive Instr where
  /-- ENCODER_PULSE (R3): a pulse on ENC, with the order in which its takers take the advance. -/
  | encoderPulse (order : AdvanceOrder)
  /-- LEADING_EDGE (R10): EYE changes to blocked.  With `some order`, an encoder pulse reaches Belt Control together
  with the edge and before it, and the Gate Matcher takes the edge before it takes that advance (R10, R83). -/
  | leadingEdge (pulse : Option AdvanceOrder)
  /-- TRAILING_EDGE (R11): EYE changes to clear. -/
  | trailingEdge
  /-- ESTOP_ASSERTED (R8). -/
  | estopAsserted
  /-- ESTOP_RELEASED (R8). -/
  | estopReleased
  /-- SUPWARN_ASSERTED (R150). -/
  | supwarnAsserted
  /-- SUPWARN_WITHDRAWN (R152). -/
  | supwarnWithdrawn
  /-- BACKUP_FLAG_CHANGE (R153): the two comparators after the change. -/
  | backupFlagChange (low lost : Bool)
  /-- RESET_ASSERTED (R146). -/
  | resetAsserted
  /-- MAIN_SUPPLY_LOSS (R146): `backupFails` says that the backup cell fails to hold the retained domain. -/
  | mainSupplyLoss (backupFails : Bool)
  /-- START (R146): with the line levels the start reads.  `some n` in `cut` says that main supply is lost again after
  the recovery of the first `n` lanes and before the start is complete (R146, last sentences). -/
  | start (origin : StartOrigin) (lines : StartLines) (cut : Option Nat)
  /-- SETTLE_TIMER_EXPIRY (R51). -/
  | settleTimerExpiry (lane : LaneId)
  /-- CLAIM_WAIT_EXPIRY (R61). -/
  | claimWaitExpiry (lane : LaneId)
  /-- CLAIM_LAPSE (R126). -/
  | claimLapse (slot : SlotId)
  /-- GAP_TIMER_EXPIRY (R155). -/
  | gapTimerExpiry (link : Link)
  /-- BYTE_RECEIVED (R155): a byte on RXD; `stopBit` is false for a byte received without its stop bit. -/
  | byteReceived (link : Link) (byte : Byte) (stopBit : Bool)
  /-- PROBE (R160): the byte 3Fh on RXD. -/
  | probe (link : Link)
  /-- FRAME_REFUSED (R156): a completed frame as its kind byte, body and check byte. -/
  | frameRefused (link : Link) (kind : Byte) (body : List Byte) (check : Byte)
  /-- FRAME_TRANSMITTED (R159): the last byte of the frame being sent has been sent. -/
  | frameTransmitted (link : Link)
  /-- STATUS_BYTE_TRANSMITTED (R160). -/
  | statusByteTransmitted (link : Link)
  /-- OPEN (R40). -/
  | openSession (lane : LaneId)
  /-- CONTAINER (R41). -/
  | container (lane : LaneId) (report : RawReport)
  /-- END (R47). -/
  | endSession (lane : LaneId)
  /-- CANCEL (R44). -/
  | cancel (lane : LaneId)
  /-- LANE-QUERY (R58). -/
  | laneQuery (lane : LaneId)
  /-- CLAIM (R123): the checkout byte and the eight code bytes. -/
  | claim (checkout : Byte) (code : List Byte)
  /-- REDEEM (R124). -/
  | redeem (checkout : Byte) (code : List Byte)
  /-- UNCLAIM (R125). -/
  | unclaim (checkout : Byte) (code : List Byte)
  /-- CORNER-STATUS (R16). -/
  | cornerStatus
  /-- BELT-ENABLE (R6). -/
  | beltEnable
  /-- BELT-STOP (R6). -/
  | beltStop
  /-- JAM-CLEAR (R13). -/
  | jamClear
  /-- RECOG-WRITE (R20). -/
  | recogWrite (index enable : Byte) (key mask : ArticleKey) (cls : Byte)
  /-- RECOG-READ (R21). -/
  | recogRead (index : Byte)
  /-- TARIFF-BEGIN (R33). -/
  | tariffBegin (cls : Byte)
  /-- TARIFF-DATA (R34): the body bytes. -/
  | tariffData (bytes : List Byte)
  /-- TARIFF-READ (R21). -/
  | tariffRead (cls : Byte)
  /-- BIN-RELEASE (R107). -/
  | binRelease (chute : Byte)
  /-- BIN-RETURN (R109). -/
  | binReturn (chute : Byte)
  /-- BIN-READ (R110). -/
  | binRead (chute : Byte)
  /-- REJECT-CLEAR (R113). -/
  | rejectClear
  /-- VOUCHER-READ (R129). -/
  | voucherRead (slot : Byte)
  /-- VOUCHER-VOID (R130). -/
  | voucherVoid (slot : Byte) (serial : Serial)
  /-- TOTALS-READ (R132). -/
  | totalsRead
  /-- PERIOD-CLOSE (R133). -/
  | periodClose
  /-- PLAN-STAGE (R136): the part selector byte and the part fields. -/
  | planStage (selector : Byte) (fields : RawPart)
  /-- PLAN-READ (R137): the plan selector and the part selector. -/
  | planRead (plan part : Byte)
  /-- PLAN-APPLY (R139). -/
  | planApply
  deriving DecidableEq, Repr

end Sys2Proof
end

