-- ==== Sys2Proof/Decode.lean ====
section
/-! DEFINITION. The command that a word spells by the bits of the opcode table.  No row of the table gives bits (every
row's `fields` is empty), so no word spells a command; the frames of the links are read in Machine/LinkEvents.lean. -/

namespace Sys2Proof

/-- The command that a word of `nbits` bits spells: none, for any word (the table gives no row any bits; log entry 20). -/
def decodeTableWord (_nbits _w : Nat) : Option Instr := none

end Sys2Proof
end

