-- ==== Sys2Proof/Config.lean ====
section
/-! DEFINITION. What the CH-46 fixes for good (no field of a plan) and the one free value of the model. -/

namespace Sys2Proof.Config

/-- The timebase step in ms (R2). -/
def timebaseStep : Nat := 10

/-- The capacity of the transit queue (R78). -/
def queueCapacity : Nat := 48

/-- The voucher ceiling in minor units (R28). -/
def voucherCeiling : Nat := 50000

/-- The container limit of a session (R28). -/
def containerLimit : Nat := 999

/-- The limit of a claim lapse timer in ms, no plan field (R126). -/
def lapseLimit : Nat := 120000

/-- The limit of a receiver's gap timer in ms (R155). -/
def gapLimit : Nat := 20

/-- The value at which a period total saturates (R131). -/
def totalMax : Nat := 4294967295

/-- The value at which a bin's item count saturates (R90). -/
def itemMax : Nat := 65535

/-- The value at which the reject-chute count saturates (R92). -/
def rejectMax : Nat := 255

/-- The number of waiting frames at which a completed frame is discarded unanswered (R159). -/
def discardAt : Nat := 3

/-- The number of data bytes that a TARIFF-DATA may carry at most (R34). -/
def tariffDataMax : Nat := 112

/-- FREE VALUE (log entry 3).  Where several timers expire at one timebase step, R2 fixes no order among the
expiries; the model draws each next expiry by this constant, applied to the counter `State.choices`.
It has no body, so no proof can know the order. -/
opaque freeChoice : Nat → Nat

end Sys2Proof.Config
end

