-- ==== Sys2Proof/Machine/State.lean ====
section
/-! DEFINITION. Everything the manual says the CH-46 holds, block by block (Introduction 2.1), as plain data; the two
closed inductives of stops; and the state after reset, which is the state after a cold start. -/

namespace Sys2Proof.Machine

/-! ### Plans (Chapter 8) -/

/-- The mode of a lane part (Table 8-2). -/
inductive LaneMode where
  | parked
  | opened
  deriving DecidableEq, Repr

/-- The service field of a bin part (Table 8-3). -/
inductive Service where
  | out
  | serving
  deriving DecidableEq, Repr

/-- The global part of a plan (Table 8-1). -/
structure GlobalPart where
  gap            : Nat
  tolerance      : Nat
  holdMark       : Nat
  releaseMark    : Nat
  claimWaitLimit : Nat
  settleLimit    : Nat
  jamLength      : Nat
  rejectLimit    : Nat
  deriving DecidableEq, Repr

/-- A lane part of a plan (Table 8-2); bit n of `materials` accepts material n (R171). -/
structure LanePart where
  mode      : LaneMode
  offset    : Nat
  dropLead  : Nat
  materials : Byte
  deriving DecidableEq, Repr

/-- A bin part of a plan (Table 8-3). -/
structure BinPart where
  service     : Service
  material    : Nat
  capacity    : Nat
  ratio       : Nat
  warningMark : Nat
  deriving DecidableEq, Repr

/-- A service plan: one global, four lane and seven bin parts (Chapter 8.1). -/
structure Plan where
  corner : GlobalPart
  lanes  : Vector LanePart 4
  bins   : Vector BinPart 7
  deriving DecidableEq, Repr

/-- The state of the Plan Unit (R135). -/
structure PlanUnit where
  staged : Plan
  active : Plan
  deriving DecidableEq, Repr

/-! ### Recognition Unit (Chapter 2) -/

/-- A recognition entry (Table 2-1). -/
structure RecogEntry where
  enable : Bool
  key    : ArticleKey
  mask   : ArticleKey
  cls    : ClassId
  deriving DecidableEq, Repr

/-- A tariff class (Table 2-2). -/
structure TariffClass where
  deposit       : Nat
  material      : Nat
  volume        : Nat
  weightMin     : Nat
  weightMax     : Nat
  shapeRequired : Bool
  deriving DecidableEq, Repr

/-- An open tariff load cursor (Table 2-5). -/
structure Cursor where
  index : Nat
  bytes : List Byte
  deriving DecidableEq, Repr

/-- The state of the Recognition Unit (R18, R22, R31). -/
structure Recognition where
  entries : Vector RecogEntry 64
  classes : Vector TariffClass 32
  cursor  : Option Cursor
  deriving DecidableEq, Repr

/-! ### Session Unit (Chapter 3) -/

/-- A lane state (Table 3-1). -/
inductive LaneState where
  | parked
  | ready
  | active
  | settling
  deriving DecidableEq, Repr

/-- A running settle timer: the time since END was taken and the limit copied then, in ms (R48). -/
structure SettleTimer where
  elapsed : Nat
  limit   : Nat
  deriving DecidableEq, Repr

/-- A last-close record; `voucher` holds slot and serial, and its absence is the outcome NO-VOUCHER (R49). -/
structure CloseRecord where
  voucher      : Option (SlotId × Serial)
  amount       : Nat
  count        : Nat
  unconfirmed  : Nat
  powerClosed  : Bool
  deriving DecidableEq, Repr

/-- A lane context (Table 3-3).  The waiting claim is held by the Merge Arbiter (R59). -/
structure Lane where
  state             : LaneState
  slot              : Option SlotId
  firmCredit        : Nat
  firmCount         : Nat
  transitCredit     : Nat
  transitCount      : Nat
  unconfirmedCredit : Nat
  unconfirmedCount  : Nat
  parkPending       : Bool
  settle            : Option SettleTimer
  lastClose         : Option CloseRecord
  deriving DecidableEq, Repr

/-! ### Merge Arbiter and Transit Tracker (Chapter 4) -/

/-- A waiting claim (Table 4-1); timer and limit in ms. -/
structure Claim where
  lane     : LaneId
  cls      : ClassId
  deposit  : Nat
  material : Nat
  volume   : Nat
  elapsed  : Nat
  limit    : Nat
  deriving DecidableEq, Repr

/-- The state of the Merge Arbiter: the waiting-claim set, oldest first, merge-hold and held (R59, R63, R64). -/
structure MergeArbiter where
  claims    : List Claim
  mergeHold : Bool
  held      : Bool
  deriving DecidableEq, Repr

/-- A transit record (Table 4-2). -/
structure TransitRecord where
  lane     : LaneId
  attached : Bool
  deposit  : Nat
  bin      : BinId
  volume   : Nat
  due      : Count
  deriving DecidableEq, Repr

/-! ### Bin Table (Chapter 6) -/

/-- The state a bin takes when its drain completes (Table 6-1). -/
inductive DrainTarget where
  | out
  | released
  deriving DecidableEq, Repr

/-- A bin state with, in DRAINING, the drain target (Table 6-2, R99). -/
inductive BinState where
  | out
  | serving
  | draining (target : DrainTarget)
  | released
  deriving DecidableEq, Repr

/-- A bin record (Table 6-1). -/
structure Bin where
  state       : BinState
  material    : Nat
  capacity    : Nat
  ratio       : Nat
  warningMark : Nat
  confirmed   : Nat
  reserved    : Nat
  items       : Nat
  warn        : Bool
  deriving DecidableEq, Repr

/-- The reject-chute record (Table 6-5). -/
structure RejectChute where
  count   : Nat
  atLimit : Bool
  deriving DecidableEq, Repr

/-! ### Voucher Table (Chapter 7) -/

/-- The voucher fields of an ISSUED or CLAIMED slot (Table 7-1). -/
structure Voucher where
  serial      : Serial
  amount      : Nat
  count       : Nat
  unconfirmed : Nat
  lane        : LaneId
  powerClosed : Bool
  recovered   : Bool
  deriving DecidableEq, Repr

/-- A voucher slot; a claimant and a lapse timer (ms) exist exactly in CLAIMED (R116). -/
inductive VoucherSlot where
  | free
  | issued (v : Voucher)
  | claimed (v : Voucher) (claimant : Nat) (elapsed : Nat)
  deriving DecidableEq, Repr

/-- The seven period totals (Table 7-3). -/
structure Totals where
  issued         : Nat
  redeemed       : Nat
  voided         : Nat
  paidUnreturned : Nat
  confirmed      : Nat
  strays         : Nat
  missing        : Nat
  deriving DecidableEq, Repr

/-- The state of the Voucher Table; the head of `stack` is the top of the free-slot stack (R117). -/
structure VoucherTable where
  slots       : Vector VoucherSlot 128
  stack       : List SlotId
  serial      : Serial
  totals      : Totals
  outstanding : Nat
  deriving DecidableEq, Repr

/-! ### Belt Control (Chapter 1) -/

/-- The state of Belt Control: count, belt-enable, emergency stop, eye level, jam watch (its start count while
watching), jam state and run state.  BRUN is `running` (R3, R6, R7, R8, R9, R12). -/
structure BeltControl where
  count        : Count
  enable       : Bool
  estopPressed : Bool
  eyeBlocked   : Bool
  watch        : Option Count
  jam          : Bool
  running      : Bool
  deriving DecidableEq, Repr

/-! ### Supply Monitor (Chapter 9) -/

/-- The supply state (R150). -/
inductive SupplyState where
  | normal
  | holdUp
  deriving DecidableEq, Repr

/-- The reset cause (R146). -/
inductive ResetCause where
  | cold
  | supply
  | pin
  deriving DecidableEq, Repr

/-- Whether the part runs, is held by RESET, or has lost main supply since its last start (R146). -/
inductive Phase where
  | running
  | inReset
  | supplyLost
  deriving DecidableEq, Repr

/-- The state of the Supply Monitor (R146, R148, R150, R153). -/
structure SupplyMonitor where
  phase      : Phase
  state      : SupplyState
  cause      : ResetCause
  recovered  : Nat
  backupLow  : Bool
  backupLost : Bool
  marker     : Bool
  deriving DecidableEq, Repr

/-! ### Link Ports (Chapter 10) -/

/-- The request kinds of Table 10-2. -/
inductive ReqKind where
  | openSession | container | endSession | cancel | laneQuery
  | claim | redeem | unclaim
  | cornerStatus | beltEnable | beltStop | jamClear | recogWrite | recogRead | tariffBegin | tariffData | tariffRead
  | binRelease | binReturn | binRead | rejectClear | voucherRead | voucherVoid | planStage | planRead | planApply
  | totalsRead | periodClose
  deriving DecidableEq, Repr

/-- A receiver (R155): the partial frame holds the bytes from LEN on, and the gap timer is in ms. -/
inductive Receiver where
  | idle
  | frame (bytes : List Byte) (gap : Nat)
  | hunt (gap : Nat)
  deriving DecidableEq, Repr

/-- A transmitter: idle, sending the first frame of the output queue, or sending a status byte (R159, R160). -/
inductive Transmitter where
  | idle
  | frame
  | status (b : Byte)
  deriving DecidableEq, Repr

/-- The seven notices of Table 10-4.  A lane link uses `state` and `credit`, the checkout link `lapse`, and the office
link the other four. -/
structure Notices where
  state  : Bool := false
  credit : Bool := false
  lapse  : Bool := false
  bin    : Bool := false
  belt   : Bool := false
  reject : Bool := false
  supply : Bool := false
  deriving DecidableEq, Repr

/-- The names of the notices. -/
inductive Notice where
  | state | credit | lapse | bin | belt | reject | supply
  deriving DecidableEq, Repr

/-- The state of one link (Table 10-1).  ATTN is formed from the notices (R162), in `LinkPort.attn`. -/
structure LinkPort where
  receiver      : Receiver
  inFlight      : Option ReqKind
  outQueue      : List (List Byte)
  pendingStatus : Option Byte
  transmitter   : Transmitter
  notices       : Notices
  power         : Bool
  deriving DecidableEq, Repr

/-! ### The state -/

/-- The state of the CH-46.  `ports` holds lane links 0–3, the checkout link and the office link, in this order;
`transit` is the transit queue, head first (R78); `pending` is the queue of commands that wait, and `choices` counts the
free choices drawn so far: these two are the model's own. -/
structure State where
  ports   : Vector LinkPort 6
  belt    : BeltControl
  chute   : Fin 8
  recog   : Recognition
  lanes   : Vector Lane 4
  merge   : MergeArbiter
  transit : List TransitRecord
  bins    : Vector Bin 7
  reject  : RejectChute
  table   : VoucherTable
  plans   : PlanUnit
  supply  : SupplyMonitor
  choices : Nat
  pending : List Instr
  deriving DecidableEq, Repr

/-! ### Stops -/

/-- The reasons for a fault.  There is none: the manual gives every command an effect in every state, so no command of
the model stops the machine.  (Nobody raises a fault; an empty type is safe.) -/
inductive Fault where
  deriving DecidableEq, Repr

/-- The reasons for a refusal by the model (not a REFUSE frame, which is a response). -/
inductive Refusal where
  /-- An arm of `exec` that has no meaning yet, by its row's mnemonic.  No arm raises it.  Safe: the model stops. -/
  | notModelled (mnemonic : String)
  deriving DecidableEq, Repr

/-! ### Start values -/

/-- The default global part (Table 8-1). -/
def GlobalPart.cold : GlobalPart :=
  { gap := 200, tolerance := 24, holdMark := 40, releaseMark := 24, claimWaitLimit := 8000, settleLimit := 30000,
    jamLength := 400, rejectLimit := 60 }

/-- A default lane part with its offset (Table 8-2). -/
def LanePart.cold (offset : Nat) : LanePart :=
  { mode := .parked, offset := offset, dropLead := 30, materials := 0 }

/-- The default bin part (Table 8-3). -/
def BinPart.cold : BinPart :=
  { service := .out, material := 1, capacity := 20000, ratio := 16, warningMark := 18000 }

/-- The default plan (R144). -/
def Plan.cold : Plan :=
  { corner := .cold
    lanes := #v[.cold 3600, .cold 2700, .cold 1800, .cold 900]
    bins := Vector.replicate 7 .cold }

/-- A cold recognition entry (R18). -/
def RecogEntry.cold : RecogEntry := { enable := false, key := 0, mask := 0, cls := 0 }

/-- A cold tariff class (R22). -/
def TariffClass.cold : TariffClass :=
  { deposit := 0, material := 0, volume := 1, weightMin := 0, weightMax := 8191, shapeRequired := false }

/-- A cold lane context (R36, R37). -/
def Lane.cold : Lane :=
  { state := .parked, slot := none, firmCredit := 0, firmCount := 0, transitCredit := 0, transitCount := 0,
    unconfirmedCredit := 0, unconfirmedCount := 0, parkPending := false, settle := none, lastClose := none }

/-- A cold bin record (R115). -/
def Bin.cold : Bin :=
  { state := .out, material := 1, capacity := 20000, ratio := 16, warningMark := 18000, confirmed := 0,
    reserved := 0, items := 0, warn := false }

/-- The period totals at 0 (R131, R133). -/
def Totals.zero : Totals :=
  { issued := 0, redeemed := 0, voided := 0, paidUnreturned := 0, confirmed := 0, strays := 0, missing := 0 }

/-- The cold Voucher Table: every slot FREE and on the stack, slot 0 on top (R117, R134). -/
def VoucherTable.cold : VoucherTable :=
  { slots := Vector.replicate 128 .free, stack := List.finRange 128, serial := 0, totals := .zero, outstanding := 0 }

/-- The values of a link at any start, before its start notice and power flag (R164). -/
def LinkPort.blank : LinkPort :=
  { receiver := .idle, inFlight := none, outQueue := [], pendingStatus := none, transmitter := .idle, notices := {},
    power := false }

/-- A link right after a start: the power flag set and, on the office link, the SUPPLY notice (R164). -/
def LinkPort.started (office : Bool) : LinkPort :=
  { LinkPort.blank with power := true, notices := { supply := office } }

/-- Belt Control right after a start with the given eye and emergency-stop levels (R17). -/
def BeltControl.started (eyeBlocked estopPressed : Bool) : BeltControl :=
  { count := 0, enable := false, estopPressed := estopPressed, eyeBlocked := eyeBlocked,
    watch := if eyeBlocked then some 0 else none, jam := false, running := false }

/-- The machine right after reset: the values of a cold start with EYE clear, ESTOP released, SUPWARN withdrawn and both
backup comparators at no (R17, R18, R22, R31, R36, R37, R59, R63, R64, R77, R115, R134, R144, R147, R164; the four line
levels are log entry 4). -/
def State.reset : State :=
  { ports := #v[.started false, .started false, .started false, .started false, .started false, .started true]
    belt := .started false false
    chute := 0
    recog := { entries := Vector.replicate 64 .cold, classes := Vector.replicate 32 .cold, cursor := none }
    lanes := Vector.replicate 4 .cold
    merge := { claims := [], mergeHold := false, held := true }
    transit := []
    bins := Vector.replicate 7 .cold
    reject := { count := 0, atLimit := false }
    table := .cold
    plans := { staged := .cold, active := .cold }
    supply := { phase := .running, state := .normal, cause := .cold, recovered := 0, backupLow := false,
                backupLost := false, marker := true }
    choices := 0
    pending := [] }

end Sys2Proof.Machine
end

