-- ==== Sys2Proof/Machine/Operands.lean ====
section
/-! DEFINITION. How a field of a body is read and checked (R166, R169 to R171), the byte order, and the signed distance
of two belt positions (R1). -/

namespace Sys2Proof.Machine

/-! ### Belt positions -/

/-- The signed distance from count `b` to count `a` in the two steps of R1. -/
def signedDistance (b a : Count) : Int :=
  let m := (a - b).toNat
  if m < 32768 then (m : Int) else (m : Int) - 65536

/-! ### Bytes (R166) -/

/-- A number as `w` bytes, most significant byte first (R166, Numbers). -/
def be : (w : Nat) → (n : Nat) → List Byte
  | 0, _ => []
  | w + 1, n => BitVec.ofNat 8 (n / 256 ^ w) :: be w n

/-- The number that bytes spell, most significant byte first (R166, Numbers). -/
def beNat (bytes : List Byte) : Nat := bytes.foldl (fun n b => n * 256 + b.toNat) 0

/-- The article key or mask that six bytes spell, most significant byte first.  R166 fixes the order of fields of two to four
bytes only; that the six-byte field of CONTAINER, RECOG-WRITE and RECOG-ENTRY has it too is the model's (DESIGN CHOICE, log
entry 22). -/
def keyOf (bytes : List Byte) : ArticleKey := BitVec.ofNat 48 (beNat bytes)

/-- An article key or mask as six bytes, in the order of `keyOf` (DESIGN CHOICE, log entry 22). -/
def keyBytes (key : ArticleKey) : List Byte := be 6 key.toNat

/-- A received yes / no byte; `none` is out of range (R166). -/
def yesNo (b : Byte) : Option Bool :=
  if b = 0 then some false else if b = 1 then some true else none

/-- A yes / no field as sent (R166). -/
def yesNoByte (b : Bool) : Byte := if b then 1 else 0

/-! ### Small identifiers -/

/-- A recognition index, 0–63 (R20, R21). -/
def entryOf (b : Byte) : Option EntryId := if h : b.toNat < 64 then some ⟨b.toNat, h⟩ else none

/-- A tariff class number, 0–31 (R20, R21, R33). -/
def classOf (b : Byte) : Option ClassId := if h : b.toNat < 32 then some ⟨b.toNat, h⟩ else none

/-- A voucher slot number, 0–127 (R129, R130). -/
def slotOf (b : Byte) : Option SlotId := if h : b.toNat < 128 then some ⟨b.toNat, h⟩ else none

/-- The bin behind a chute, 1–7 (R107, R109). -/
def binOf (b : Byte) : Option BinId :=
  if h : 1 ≤ b.toNat ∧ b.toNat ≤ 7 then some ⟨b.toNat - 1, by omega⟩ else none

/-- The chute number of a bin (R98). -/
def chuteOf (b : BinId) : Nat := b.val + 1

/-- A part selector (R171). -/
inductive PartSel where
  | corner
  | lane (k : LaneId)
  | bin (b : BinId)
  deriving DecidableEq, Repr

/-- The part that a selector byte names: 00h the global part, 10h–13h lanes 0–3, 21h–27h the bins on chutes 1–7 (R171). -/
def PartSel.ofByte (b : Byte) : Option PartSel :=
  let n := b.toNat
  if n = 0 then some .corner
  else if h : 16 ≤ n ∧ n ≤ 19 then some (.lane ⟨n - 16, by omega⟩)
  else if h : 33 ≤ n ∧ n ≤ 39 then some (.bin ⟨n - 33, by omega⟩)
  else none

/-- The selector byte of a part (R171). -/
def PartSel.byte : PartSel → Byte
  | .corner => 0
  | .lane k => BitVec.ofNat 8 (16 + k.val)
  | .bin b => BitVec.ofNat 8 (33 + b.val)

/-- Which plan a plan selector names: 00h staged, 01h active; `true` is the active plan (R171). -/
def activeSelected (b : Byte) : Option Bool := yesNo b

/-! ### The container report (Table 2-3) -/

/-- A container report whose fields are in range. -/
structure Report where
  key     : Option ArticleKey
  weight  : Nat
  shapeOk : Bool
  deriving DecidableEq, Repr

/-- The range check of R23 on a received report. -/
def reportOf (r : RawReport) : Option Report :=
  match yesNo r.keyPresent, yesNo r.shapeOk with
  | some present, some shape =>
    if r.weight.toNat ≤ 8191 then
      some { key := if present then some r.key else none, weight := r.weight.toNat, shapeOk := shape }
    else none
  | _, _ => none

/-! ### Tariff records (Table 11-2) -/

/-- The ranges of Table 2-2. -/
def TariffClass.inRange (c : TariffClass) : Bool :=
  c.deposit ≤ 5000 && c.material ≤ 7 && 1 ≤ c.volume && c.volume ≤ 400 && c.weightMin ≤ 8191 &&
    c.weightMin ≤ c.weightMax && c.weightMax ≤ 8191

/-- The class that ten bytes of the stream spell, if every field is in range (R35, Table 11-2). -/
def TariffClass.decode : List Byte → Option TariffClass
  | [d1, d0, m, v1, v0, a1, a0, b1, b0, sh] =>
    match yesNo sh with
    | some shape =>
      let c : TariffClass :=
        { deposit := beNat [d1, d0], material := m.toNat, volume := beNat [v1, v0], weightMin := beNat [a1, a0],
          weightMax := beNat [b1, b0], shapeRequired := shape }
      if c.inRange then some c else none
    | none => none
  | _ => none

/-- The ten bytes of a class in stream order (Table 11-2). -/
def TariffClass.encode (c : TariffClass) : List Byte :=
  be 2 c.deposit ++ be 1 c.material ++ be 2 c.volume ++ be 2 c.weightMin ++ be 2 c.weightMax ++
    [yesNoByte c.shapeRequired]

/-! ### Plan parts (Tables 8-1 to 8-3) -/

/-- The ranges of Table 8-1. -/
def GlobalPart.inRange (g : GlobalPart) : Bool :=
  8 ≤ g.gap && g.gap ≤ 1023 && 2 ≤ g.tolerance && g.tolerance ≤ 255 && 8 ≤ g.holdMark && g.holdMark ≤ 48 &&
    g.releaseMark ≤ 47 && 1000 ≤ g.claimWaitLimit && g.claimWaitLimit ≤ 30000 && 5000 ≤ g.settleLimit &&
    g.settleLimit ≤ 120000 && 32 ≤ g.jamLength && g.jamLength ≤ 2047 && 1 ≤ g.rejectLimit && g.rejectLimit ≤ 255

/-- The ranges of Table 8-2: no material 0 in the accepted set (R166). -/
def LanePart.inRange (l : LanePart) : Bool :=
  64 ≤ l.offset && l.offset ≤ 6000 && l.dropLead ≤ 255 && !l.materials.getLsbD 0

/-- The ranges of Table 8-3; the warning mark is checked against 65,000 alone (R136). -/
def BinPart.inRange (b : BinPart) : Bool :=
  1 ≤ b.material && b.material ≤ 7 && 100 ≤ b.capacity && b.capacity ≤ 65000 && 1 ≤ b.ratio && b.ratio ≤ 16 &&
    1 ≤ b.warningMark && b.warningMark ≤ 65000

/-- Check 1 of Table 8-4. -/
def Plan.inRange (p : Plan) : Bool :=
  p.corner.inRange && p.lanes.toList.all LanePart.inRange && p.bins.toList.all BinPart.inRange

/-- The global part in a received PLAN-STAGE, if its length and every field are in range (R136). -/
def globalPartOf : RawPart → Option GlobalPart
  | .globalPart gap tolerance hold release claimWait settle jam reject =>
    let g : GlobalPart :=
      { gap := gap.toNat, tolerance := tolerance.toNat, holdMark := hold.toNat, releaseMark := release.toNat,
        claimWaitLimit := claimWait.toNat, settleLimit := settle.toNat, jamLength := jam.toNat,
        rejectLimit := reject.toNat }
    if g.inRange then some g else none
  | _ => none

/-- The lane part in a received PLAN-STAGE, if its length and every field are in range (R136). -/
def lanePartOf : RawPart → Option LanePart
  | .lanePart mode offset dropLead materials =>
    match yesNo mode with
    | some opened =>
      let l : LanePart :=
        { mode := if opened then .opened else .parked, offset := offset.toNat, dropLead := dropLead.toNat,
          materials := materials }
      if l.inRange then some l else none
    | none => none
  | _ => none

/-- The bin part in a received PLAN-STAGE, if its length and every field are in range (R136). -/
def binPartOf : RawPart → Option BinPart
  | .binPart service material capacity ratio warningMark =>
    match yesNo service with
    | some serving =>
      let b : BinPart :=
        { service := if serving then .serving else .out, material := material.toNat, capacity := capacity.toNat,
          ratio := ratio.toNat, warningMark := warningMark.toNat }
      if b.inRange then some b else none
    | none => none
  | _ => none

/-- The 13 bytes of a global part (R171). -/
def GlobalPart.encode (g : GlobalPart) : List Byte :=
  be 2 g.gap ++ be 1 g.tolerance ++ be 1 g.holdMark ++ be 1 g.releaseMark ++ be 2 g.claimWaitLimit ++
    be 3 g.settleLimit ++ be 2 g.jamLength ++ be 1 g.rejectLimit

/-- The 5 bytes of a lane part (R171). -/
def LanePart.encode (l : LanePart) : List Byte :=
  [yesNoByte (l.mode == .opened)] ++ be 2 l.offset ++ be 1 l.dropLead ++ [l.materials]

/-- The 7 bytes of a bin part (R171). -/
def BinPart.encode (b : BinPart) : List Byte :=
  [yesNoByte (b.service == .serving)] ++ be 1 b.material ++ be 2 b.capacity ++ be 1 b.ratio ++ be 2 b.warningMark

/-! ### Voucher codes (Chapter 7.4) -/

/-- The number N of a voucher in a slot with a serial (R121). -/
def codeNumber (slot : SlotId) (serial : Serial) : Nat := slot.val * 65536 + serial.toNat

/-- The seven decimal digits of N, with leading zeros (R121). -/
def codeDigits (n : Nat) : List Nat :=
  [n / 1000000 % 10, n / 100000 % 10, n / 10000 % 10, n / 1000 % 10, n / 100 % 10, n / 10 % 10, n % 10]

/-- The weighted sum of seven digits, weights 3, 1, 3, 1, 3, 1, 3 from the rightmost digit (R121). -/
def weightedSum (digits : List Nat) : Nat :=
  (List.zipWith (· * ·) [3, 1, 3, 1, 3, 1, 3] digits.reverse).sum

/-- The check digit of seven digits (R121). -/
def checkDigit (digits : List Nat) : Nat := (10 - weightedSum digits % 10) % 10

/-- The eight bytes of the voucher code (R121, R166). -/
def voucherCode (slot : SlotId) (serial : Serial) : List Byte :=
  let digits := codeDigits (codeNumber slot serial)
  (digits ++ [checkDigit digits]).map (BitVec.ofNat 8)

/-- The number that seven digits spell (R122). -/
def digitsNumber (digits : List Nat) : Nat := digits.foldl (fun n d => n * 10 + d) 0

/-! ### Saturation -/

/-- An addition to a period total, saturating (R131). -/
def satAdd (total n : Nat) : Nat := min (total + n) Config.totalMax

/-! ### Fixed collections -/

/-- The lanes in lane order (R148, R150). -/
def laneIds : List LaneId := [0, 1, 2, 3]

/-- The bins in chute order (R103). -/
def binIds : List BinId := [0, 1, 2, 3, 4, 5, 6]

/-- The six links (Table 10-2). -/
def links : List Link := [.lane 0, .lane 1, .lane 2, .lane 3, .checkout, .office]

/-- Apply a function to every entry of a fixed collection (as `Vector.map`, in a form that `decide` evaluates). -/
def mapAll {α β : Type} {n : Nat} (f : α → β) (v : Vector α n) : Vector β n :=
  ⟨(v.toList.map f).toArray, by simp⟩

end Sys2Proof.Machine
end

