-- ==== Sys2Proof/Machine/Flags.lean ====
section
/-! DEFINITION. The flag bytes, state codes and status bytes of R169, R171 and R172. -/

namespace Sys2Proof.Machine

/-- A byte from its bits, bit 0 first (R166, Flag bytes). -/
def flagByte (bits : List Bool) : Byte :=
  BitVec.ofNat 8 (bits.foldr (fun b n => b.toNat + 2 * n) 0)

/-- The lane state code's low and high bit: 00 READY, 01 PARKED, 10 ACTIVE, 11 SETTLING (R169, R172). -/
def LaneState.bits : LaneState → List Bool
  | .ready => [false, false]
  | .parked => [true, false]
  | .active => [false, true]
  | .settling => [true, true]

/-- The bin state byte with WARN in bit 2 and the drain target in bit 3 (R171). -/
def Bin.stateByte (b : Bin) : Byte :=
  match b.state with
  | .out => flagByte [false, false, b.warn, false]
  | .serving => flagByte [true, false, b.warn, false]
  | .draining .out => flagByte [false, true, b.warn, false]
  | .draining .released => flagByte [false, true, b.warn, true]
  | .released => flagByte [true, true, b.warn, false]

/-- The voucher flags byte: bit 0 POWER-CLOSED, bit 1 RECOVERED (R169). -/
def voucherFlags (powerClosed recovered : Bool) : Byte := flagByte [powerClosed, recovered]

/-- The reset cause code (R171). -/
def ResetCause.code : ResetCause → Byte
  | .cold => 0
  | .supply => 1
  | .pin => 2

/-- The belt flags byte (R171). -/
def BeltControl.flags (b : BeltControl) : Byte :=
  flagByte [b.enable, b.running, b.estopPressed, b.jam, b.eyeBlocked]

/-- The corner flags byte (R171). -/
def State.cornerFlags (s : State) : Byte :=
  flagByte [s.merge.mergeHold, s.merge.held, s.reject.atLimit, s.supply.state == .holdUp, s.supply.backupLow,
    s.supply.backupLost]

/-- The merge flags byte of PLAN-APPLIED (R171). -/
def MergeArbiter.flags (m : MergeArbiter) : Byte := flagByte [m.mergeHold, m.held]

/-- The lane byte of PLAN-APPLIED (R171). -/
def Lane.appliedByte (l : Lane) : Byte := flagByte (l.state.bits ++ [l.parkPending])

/-- The in-flight field of a status byte: a request in flight or a frame waiting (R161). -/
def LinkPort.busy (p : LinkPort) : Bool := p.inFlight.isSome || !p.outQueue.isEmpty

/-- Whether ATTN of a link is asserted: at least one of its notices is set (R162). -/
def LinkPort.attn (p : LinkPort) : Bool :=
  p.notices.state || p.notices.credit || p.notices.lapse || p.notices.bin || p.notices.belt || p.notices.reject ||
    p.notices.supply

/-- The status byte of a lane link (R172). -/
def laneStatus (l : Lane) (held : Bool) (p : LinkPort) : Byte :=
  flagByte (l.state.bits ++ [l.parkPending, held, p.power, p.busy, p.notices.state, p.notices.credit])

/-- The status byte of the checkout link (R172). -/
def checkoutStatus (p : LinkPort) : Byte :=
  flagByte [p.busy, p.power, p.notices.lapse, false, false, false, true, false]

/-- The status byte of the office link (R172). -/
def officeStatus (p : LinkPort) : Byte :=
  flagByte [p.busy, p.power, p.notices.bin, p.notices.belt, p.notices.reject, p.notices.supply, true, false]

end Sys2Proof.Machine
end

