-- ==== Sys2Proof/Machine/Responses.lean ====
section
/-! DEFINITION. The responses, their bodies (R168 to R171), their frames (R167) and the code tables (Table 11-1, R168). -/

namespace Sys2Proof.Machine

/-- The refusal reasons (R168). -/
inductive Reason where
  | frame | kind | range | busy | state | power | idle | tableFull
  | unknown | classOff | materialClosed | weight | shape | sessionFull | materialFull | noMark
  | noSlot | cancelled | badCode | noVoucher | claimedElsewhere | notClaimed | planInvalid
  deriving DecidableEq, Repr

/-- The reason codes (R168). -/
def Reason.code : Reason → Byte
  | .frame => 0x01
  | .kind => 0x02
  | .range => 0x03
  | .busy => 0x04
  | .state => 0x05
  | .power => 0x06
  | .idle => 0x07
  | .tableFull => 0x08
  | .unknown => 0x09
  | .classOff => 0x0A
  | .materialClosed => 0x0B
  | .weight => 0x0C
  | .shape => 0x0D
  | .sessionFull => 0x0E
  | .materialFull => 0x0F
  | .noMark => 0x10
  | .noSlot => 0x11
  | .cancelled => 0x12
  | .badCode => 0x13
  | .noVoucher => 0x14
  | .claimedElsewhere => 0x15
  | .notClaimed => 0x16
  | .planInvalid => 0x17

/-- The request kind codes (Table 11-1). -/
def ReqKind.code : ReqKind → Byte
  | .openSession => 0x01
  | .container => 0x02
  | .endSession => 0x03
  | .cancel => 0x04
  | .laneQuery => 0x05
  | .claim => 0x11
  | .redeem => 0x12
  | .unclaim => 0x13
  | .cornerStatus => 0x20
  | .beltEnable => 0x21
  | .beltStop => 0x22
  | .jamClear => 0x23
  | .recogWrite => 0x24
  | .recogRead => 0x25
  | .tariffBegin => 0x26
  | .tariffData => 0x27
  | .tariffRead => 0x28
  | .binRelease => 0x29
  | .binReturn => 0x2A
  | .binRead => 0x2B
  | .rejectClear => 0x2C
  | .voucherRead => 0x2D
  | .voucherVoid => 0x2E
  | .planStage => 0x2F
  | .planRead => 0x30
  | .planApply => 0x31
  | .totalsRead => 0x32
  | .periodClose => 0x33

/-- The request kinds of a lane, the checkout and the office link (Table 10-2). -/
def kindsOf : Link → List ReqKind
  | .lane _ => [.openSession, .container, .endSession, .cancel, .laneQuery]
  | .checkout => [.claim, .redeem, .unclaim]
  | .office =>
    [.beltEnable, .beltStop, .jamClear, .cornerStatus, .recogWrite, .recogRead, .tariffBegin, .tariffData, .tariffRead,
     .binRelease, .binReturn, .binRead, .rejectClear, .voucherRead, .voucherVoid, .totalsRead, .periodClose, .planStage,
     .planRead, .planApply]

/-- The request kind that a kind byte names on a link, if any (test 2 of R156). -/
def kindOf (l : Link) (kind : Byte) : Option ReqKind := (kindsOf l).find? (fun k => k.code == kind)

/-- The body length test of R156 (Table 11-1). -/
def ReqKind.lengthOk (k : ReqKind) (n : Nat) : Bool :=
  match k with
  | .container => n == 10
  | .claim | .redeem | .unclaim => n == 9
  | .recogWrite => n == 15
  | .recogRead | .tariffBegin | .tariffRead | .binRelease | .binReturn | .binRead | .voucherRead => n == 1
  | .voucherVoid => n == 3
  | .planRead => n == 2
  | .planStage => n == 14 || n == 6 || n == 8
  | .tariffData => 1 ≤ n && n ≤ Config.tariffDataMax
  | .openSession | .endSession | .cancel | .laneQuery | .cornerStatus | .beltEnable | .beltStop | .jamClear
  | .rejectClear | .planApply | .totalsRead | .periodClose => n == 0

/-- What LANE-STATE shows of a lane (R58). -/
structure LaneView where
  state             : LaneState
  held              : Bool
  parkPending       : Bool
  waiting           : Bool
  slot              : Option SlotId
  firmCredit        : Nat
  firmCount         : Nat
  provisionalCredit : Nat
  provisionalCount  : Nat
  lastClose         : Option CloseRecord
  deriving DecidableEq, Repr

/-- What CORNER-STATE shows (R16). -/
structure CornerView where
  belt        : BeltControl
  chute       : Fin 8
  occupancy   : Nat
  flags       : Byte
  rejectCount : Nat
  binStates   : List Byte
  cause       : ResetCause
  recovered   : Nat
  deriving DecidableEq, Repr

/-- A response of Table 11-1 with its fields. -/
inductive Response where
  | refuse (kind : Byte) (reason : Reason) (detail : Nat)
  | opened (lane : LaneId) (slot : SlotId)
  | grant (chute : Nat) (due : Count) (cls : ClassId) (deposit firmCredit provisionalCredit : Nat)
  | voucher (slot : SlotId) (serial : Serial) (amount count unconfirmed : Nat) (flags : Byte)
  | noVoucher (count unconfirmed : Nat) (flags : Byte)
  | laneState (view : LaneView)
  | claimed (checkout : Byte) (slot : SlotId) (v : Voucher)
  | redeemed (checkout : Byte) (slot : SlotId) (serial : Serial) (amount : Nat)
  | unclaimed (checkout : Byte) (slot : SlotId) (serial : Serial)
  | beltState (belt : BeltControl)
  | cornerState (view : CornerView)
  | recogEntry (index : EntryId) (e : RecogEntry)
  | tariffAck (index written rejected overflowed bytesHeld : Nat)
  | tariffClass (cls : ClassId) (c : TariffClass)
  | releaseStarted (bin : BinId) (b : Bin)
  | binRecord (bin : BinId) (b : Bin)
  | rejectState (r : RejectChute) (limit : Nat)
  | voucherRecord (slot : SlotId) (state : VoucherSlot) (holder : Byte)
  | voided (slot : SlotId) (serial : Serial) (amount : Nat)
  | totals (t : Totals) (outstanding freeSlots : Nat) (closed : Bool)
  | planGlobal (active : Bool) (g : GlobalPart)
  | planLane (active : Bool) (k : LaneId) (l : LanePart)
  | planBin (active : Bool) (b : BinId) (part : BinPart)
  | planApplied (lanes bins : List Byte) (flags : Byte)
  deriving DecidableEq, Repr

/-- The response kind codes (Table 11-1). -/
def Response.code : Response → Byte
  | .refuse .. => 0x80
  | .opened .. => 0x81
  | .grant .. => 0x82
  | .voucher .. => 0x83
  | .noVoucher .. => 0x84
  | .laneState .. => 0x85
  | .claimed .. => 0x86
  | .redeemed .. => 0x87
  | .unclaimed .. => 0x88
  | .beltState .. => 0x89
  | .cornerState .. => 0x8A
  | .recogEntry .. => 0x8B
  | .tariffAck .. => 0x8C
  | .tariffClass .. => 0x8D
  | .releaseStarted .. => 0x8E
  | .binRecord .. => 0x8F
  | .rejectState .. => 0x90
  | .voucherRecord .. => 0x91
  | .voided .. => 0x92
  | .totals .. => 0x93
  | .planGlobal .. => 0x94
  | .planLane .. => 0x94
  | .planBin .. => 0x94
  | .planApplied .. => 0x95

/-- The last-close bytes of LANE-STATE; absent fields are sent as 00h (R166, R169). -/
def lastCloseBytes : Option CloseRecord → List Byte
  | none => be 10 0
  | some c =>
    match c.voucher with
    | some (slot, serial) =>
      [1] ++ be 1 slot.val ++ be 2 serial.toNat ++ be 2 c.amount ++ be 2 c.count ++ be 1 c.unconfirmed ++
        [voucherFlags c.powerClosed false]
    | none =>
      [2] ++ be 1 0 ++ be 2 0 ++ be 2 c.amount ++ be 2 c.count ++ be 1 c.unconfirmed ++
        [voucherFlags c.powerClosed false]

/-- The body of LANE-STATE (R169). -/
def LaneView.body (v : LaneView) : List Byte :=
  [flagByte v.state.bits,
    flagByte [v.held, v.parkPending, v.waiting, v.slot.isSome, v.lastClose.isSome]] ++
    be 1 ((v.slot.map Fin.val).getD 0) ++ be 2 v.firmCredit ++ be 2 v.firmCount ++ be 2 v.provisionalCredit ++
    be 2 v.provisionalCount ++ lastCloseBytes v.lastClose

/-- The voucher fields of VOUCHER-RECORD (R129, R171). -/
def voucherRecordBytes (slot : SlotId) (v : Voucher) : List Byte :=
  be 2 v.serial.toNat ++ be 2 v.amount ++ be 2 v.count ++ be 1 v.unconfirmed ++ be 1 v.lane.val ++
    [voucherFlags v.powerClosed v.recovered] ++ voucherCode slot v.serial

/-- The time left to a claim in steps of 10 ms, 1–12,000 (R129, R171).  A claim whose lapse has come but is not taken yet
still shows the last step: a record formed before the lapse shows the time before the timebase step that brings it
(DEDUCED, log entry 6). -/
def lapseRemaining (elapsed : Nat) : Nat := max 1 ((Config.lapseLimit - elapsed) / Config.timebaseStep)

/-- The body of a response (R168 to R171; the key and mask bytes of RECOG-ENTRY: log entry 22). -/
def Response.body : Response → List Byte
  | .refuse kind reason detail => [kind, reason.code] ++ be 1 detail
  | .opened lane slot => be 1 lane.val ++ be 1 slot.val
  | .grant chute due cls deposit firm prov =>
    be 1 chute ++ be 2 due.toNat ++ be 1 cls.val ++ be 2 deposit ++ be 2 firm ++ be 2 prov
  | .voucher slot serial amount count unconfirmed flags =>
    be 1 slot.val ++ be 2 serial.toNat ++ voucherCode slot serial ++ be 2 amount ++ be 2 count ++ be 1 unconfirmed ++
      [flags]
  | .noVoucher count unconfirmed flags => be 2 count ++ be 1 unconfirmed ++ [flags]
  | .laneState view => view.body
  | .claimed checkout slot v =>
    [checkout] ++ be 1 slot.val ++ be 2 v.serial.toNat ++ be 2 v.amount ++ be 2 v.count ++ be 1 v.unconfirmed ++
      [voucherFlags v.powerClosed v.recovered]
  | .redeemed checkout slot serial amount => [checkout] ++ be 1 slot.val ++ be 2 serial.toNat ++ be 2 amount
  | .unclaimed checkout slot serial => [checkout] ++ be 1 slot.val ++ be 2 serial.toNat
  | .beltState b => [b.flags] ++ be 2 b.count.toNat
  | .cornerState v =>
    [v.belt.flags] ++ be 2 v.belt.count.toNat ++ be 1 v.chute.val ++ be 1 v.occupancy ++ [v.flags] ++
      be 1 v.rejectCount ++ v.binStates ++ [v.cause.code] ++ be 1 v.recovered
  | .recogEntry index e =>
    be 1 index.val ++ [yesNoByte e.enable] ++ keyBytes e.key ++ keyBytes e.mask ++ be 1 e.cls.val
  | .tariffAck index written rejected overflowed bytesHeld =>
    be 1 index ++ be 1 written ++ be 1 rejected ++ be 1 overflowed ++ be 1 bytesHeld
  | .tariffClass cls c => be 1 cls.val ++ c.encode
  | .releaseStarted bin b => be 1 (chuteOf bin) ++ [b.stateByte] ++ be 2 b.reserved
  | .binRecord bin b =>
    be 1 (chuteOf bin) ++ [b.stateByte] ++ be 1 b.material ++ be 2 b.capacity ++ be 1 b.ratio ++ be 2 b.warningMark ++
      be 2 b.confirmed ++ be 2 b.reserved ++ be 2 b.items
  | .rejectState r limit => be 1 r.count ++ be 1 limit ++ [yesNoByte r.atLimit]
  | .voucherRecord slot state holder =>
    match state with
    | .free => be 1 slot.val ++ [0, holder] ++ be 20 0
    | .issued v => be 1 slot.val ++ [1, 0] ++ voucherRecordBytes slot v ++ be 3 0
    | .claimed v claimant elapsed =>
      be 1 slot.val ++ [2, 0] ++ voucherRecordBytes slot v ++ be 1 claimant ++ be 2 (lapseRemaining elapsed)
  | .voided slot serial amount => be 1 slot.val ++ be 2 serial.toNat ++ be 2 amount
  | .totals t outstanding freeSlots closed =>
    be 4 t.issued ++ be 4 t.redeemed ++ be 4 t.voided ++ be 4 t.paidUnreturned ++ be 4 t.confirmed ++ be 4 t.strays ++
      be 4 t.missing ++ be 4 outstanding ++ be 1 freeSlots ++ [yesNoByte closed]
  | .planGlobal active g => [yesNoByte active, PartSel.corner.byte] ++ g.encode
  | .planLane active k l => [yesNoByte active, (PartSel.lane k).byte] ++ l.encode
  | .planBin active b part => [yesNoByte active, (PartSel.bin b).byte] ++ part.encode
  | .planApplied lanes bins flags => lanes ++ bins ++ [flags]

/-- The check byte of a frame: it makes LEN, KIND, the body and itself sum to 0 modulo 256 (R167). -/
def checkByte (len kind : Byte) (body : List Byte) : Byte := -(len + kind + body.sum)

/-- A frame around a kind and a body (R154, R167). -/
def frameOf (kind : Byte) (body : List Byte) : List Byte :=
  let len : Byte := BitVec.ofNat 8 (body.length + 1)
  [0xA5, len, kind] ++ body ++ [checkByte len kind body]

/-- The response frame of a response (R167). -/
def Response.frame (r : Response) : List Byte := frameOf r.code r.body

end Sys2Proof.Machine
end

