-- ==== Sys2Proof/Machine/Ops.lean ====
section
/-! DEFINITION. The named operations over the state that several blocks share: reading and replacing one lane, bin or
link, notices, responses, the run state, held and merge-hold, and the handing on of a request (R156 to R159). -/

namespace Sys2Proof.Machine

/-! ### One home for every part -/

/-- The place of a link in `State.ports`. -/
def linkIndex : Link → Fin 6
  | .lane k => ⟨k.val, by omega⟩
  | .checkout => 4
  | .office => 5

/-- The state of one link (Table 10-1). -/
def State.port (s : State) (l : Link) : LinkPort := s.ports[linkIndex l]

/-- Replace the state of one link. -/
def State.setPort (s : State) (l : Link) (p : LinkPort) : State :=
  { s with ports := s.ports.set (linkIndex l).val p (linkIndex l).isLt }

/-- The context of one lane (Table 3-3). -/
def State.lane (s : State) (k : LaneId) : Lane := s.lanes[k]

/-- Replace the context of one lane. -/
def State.setLane (s : State) (k : LaneId) (l : Lane) : State := { s with lanes := s.lanes.set k.val l k.isLt }

/-- The record of one bin (R98). -/
def State.bin (s : State) (b : BinId) : Bin := s.bins[b]

/-- Replace the record of one bin. -/
def State.setBin (s : State) (b : BinId) (r : Bin) : State := { s with bins := s.bins.set b.val r b.isLt }

/-- One voucher slot (R116). -/
def VoucherTable.slot (t : VoucherTable) (i : SlotId) : VoucherSlot := t.slots[i]

/-- Replace one voucher slot. -/
def VoucherTable.setSlot (t : VoucherTable) (i : SlotId) (v : VoucherSlot) : VoucherTable :=
  { t with slots := t.slots.set i.val v i.isLt }

/-- The global part of the active plan. -/
def State.corner (s : State) : GlobalPart := s.plans.active.corner

/-- A lane part of the active plan. -/
def State.lanePart (s : State) (k : LaneId) : LanePart := s.plans.active.lanes[k]

/-- A bin part of the active plan. -/
def State.binPart (s : State) (b : BinId) : BinPart := s.plans.active.bins[b]

/-- Whether the part takes inputs at all: not while RESET is asserted or main supply is lost (R146). -/
def State.isUp (s : State) : Bool := s.supply.phase == .running

/-- Whether the supply is in HOLD-UP (R150). -/
def State.inHoldUp (s : State) : Bool := s.supply.state == .holdUp

/-- An event that is taken only while the part runs (R146). -/
def State.whenUp (s : State) (f : State → State) : State := if s.isUp then f s else s

/-! ### Notices (R162) -/

/-- Set one notice. -/
def Notices.set (ns : Notices) : Notice → Notices
  | .state => { ns with state := true }
  | .credit => { ns with credit := true }
  | .lapse => { ns with lapse := true }
  | .bin => { ns with bin := true }
  | .belt => { ns with belt := true }
  | .reject => { ns with reject := true }
  | .supply => { ns with supply := true }

/-- Set a notice of a link, whatever its previous value (R162). -/
def State.raise (s : State) (l : Link) (n : Notice) : State :=
  s.setPort l { s.port l with notices := (s.port l).notices.set n }

/-- Set the STATE notice of every lane (R56, R57). -/
def State.raiseAllLanes (s : State) : State := laneIds.foldl (fun s k => s.raise (.lane k) .state) s

/-! ### Sending (R159, R160) -/

/-- What an idle transmitter does next: the pending status byte first, then the next frame (R160). -/
def LinkPort.beginNext (p : LinkPort) : LinkPort :=
  match p.pendingStatus with
  | some b => { p with transmitter := .status b, pendingStatus := none }
  | none => { p with transmitter := if p.outQueue.isEmpty then .idle else .frame }

/-- Join a response frame to the output queue; an idle transmitter begins to send (R159). -/
def LinkPort.enqueue (p : LinkPort) (frame : List Byte) : LinkPort :=
  let p := { p with outQueue := p.outQueue ++ [frame] }
  if p.transmitter = .idle then p.beginNext else p

/-- Form a response that answers no request kept in flight (R157). -/
def State.respond (s : State) (l : Link) (r : Response) : State := s.setPort l ((s.port l).enqueue r.frame)

/-- Form a refusal of a frame by its kind byte (R168). -/
def State.refuse (s : State) (l : Link) (kind : Byte) (reason : Reason) : State :=
  s.respond l (.refuse kind reason 0)

/-- Form the response of the request in flight, which then stops being in flight (R157). -/
def State.answer (s : State) (l : Link) (r : Response) : State :=
  s.setPort l { (s.port l).enqueue r.frame with inFlight := none }

/-- Keep a request in flight beyond its event (R157). -/
def State.keepInFlight (s : State) (l : Link) (k : ReqKind) : State :=
  s.setPort l { s.port l with inFlight := some k }

/-- Put a receiver into a state. -/
def State.setReceiver (s : State) (l : Link) (r : Receiver) : State := s.setPort l { s.port l with receiver := r }

/-! ### Held, running and merge-hold (R7, R63, R64) -/

/-- The four causes of held (Table 3-4, R63). -/
def State.heldCauses (s : State) : Bool :=
  !s.belt.running || s.merge.mergeHold || s.reject.atLimit || s.inHoldUp

/-- Form held again; a change sets the STATE notice of every lane (R56, R63). -/
def State.reformHeld (s : State) : State :=
  if s.heldCauses = s.merge.held then s
  else State.raiseAllLanes { s with merge := { s.merge with held := s.heldCauses } }

/-- The four conditions of a running belt (R7). -/
def State.runConditions (s : State) : Bool :=
  s.belt.enable && !s.belt.estopPressed && !s.belt.jam && !s.inHoldUp

/-- Evaluate running again; a change is reported to the Merge Arbiter (R7, R63). -/
def State.reevaluateRunning (s : State) : State :=
  if s.runConditions = s.belt.running then s
  else State.reformHeld { s with belt := { s.belt with running := s.runConditions } }

/-- The number of records in the transit queue (R64). -/
def State.occupancy (s : State) : Nat := s.transit.length

/-- Merge-hold after an insertion (R64). -/
def State.holdAfterInsertion (s : State) : Bool :=
  s.merge.mergeHold || s.corner.holdMark ≤ s.occupancy

/-- Merge-hold after a removal (R64). -/
def State.holdAfterRemoval (s : State) : Bool :=
  s.merge.mergeHold && !(s.occupancy ≤ s.corner.releaseMark)

/-- Merge-hold after an apply that may change the marks (R65; log entry 17). -/
def State.holdAtApply (s : State) : Bool :=
  if s.merge.mergeHold then !(s.occupancy ≤ s.corner.releaseMark) else s.corner.holdMark ≤ s.occupancy

/-- Set merge-hold, without forming held again. -/
def State.setMergeHold (s : State) (h : Bool) : State := { s with merge := { s.merge with mergeHold := h } }

/-- At-limit of the reject chute, evaluated against the active reject limit (R112), without forming held again. -/
def State.evalAtLimit (s : State) : State :=
  { s with reject := { s.reject with atLimit := decide (s.corner.rejectLimit ≤ s.reject.count) } }

/-! ### Handing a request on (R156 to R159, R32, R151) -/

/-- Close the tariff load cursor and discard its partial bytes (R32). -/
def State.closeCursor (s : State) : State := { s with recog := { s.recog with cursor := none } }

/-- Whether a request passes the BUSY test (test 4 of R156). -/
def LinkPort.passesBusy (p : LinkPort) (k : ReqKind) : Bool :=
  p.inFlight.isNone || k == .cancel || k == .laneQuery

/-- Whether a request closes an open tariff load cursor (R32): any office request but TARIFF-DATA. -/
def closesCursor (l : Link) (k : ReqKind) : Bool := l == .office && !(k == .tariffData)

/-- Hand a request to its owner: an open cursor is closed (R32), and in HOLD-UP every request but CORNER-STATUS is
refused POWER (R151). -/
def State.handOn (s : State) (l : Link) (k : ReqKind) (take : State → State) : State :=
  let s := if closesCursor l k then s.closeCursor else s
  if s.inHoldUp && !(k == .cornerStatus) then s.refuse l k.code .power else take s

/-- Tests 3 and 4 of R156 on a completed frame whose kind is a request kind of its link. -/
def State.testRequest (s : State) (l : Link) (k : ReqKind) (bodyLength : Nat) (take : State → State) : State :=
  if !k.lengthOk bodyLength then s.refuse l k.code .range
  else if !(s.port l).passesBusy k then s.refuse l k.code .busy
  else s.handOn l k take

/-- A frame completes on a link: nothing is taken while the part is down (R146), the receiver returns to IDLE (R155), and
a frame that finds three or four frames waiting is discarded before the tests (R159). -/
def State.frameCompletes (s : State) (l : Link) (test : State → State) : State :=
  s.whenUp fun s =>
    let s := s.setReceiver l .idle
    if Config.discardAt ≤ (s.port l).outQueue.length then s else test s

/-- A request frame with a right checksum and a kind of its link completes (R156, R157; DESIGN CHOICE, log
entry 10). -/
def State.requestCompletes (s : State) (l : Link) (k : ReqKind) (bodyLength : Nat) (take : State → State) : State :=
  s.frameCompletes l fun s => s.testRequest l k bodyLength take

end Sys2Proof.Machine
end

