-- ==== Sys2Proof/Machine/BinOps.lean ====
section
/-! DEFINITION. The operations of the Bin Table (Chapter 6): compacted volume, the fit test, the choice of a bin,
reservation, WARN, the two ways a reservation ends, and drain completion. -/

namespace Sys2Proof.Machine

/-- The compacted volume of volume `v` at ratio `c`: v × c ÷ 16, rounded up (R101). -/
def compactedVolume (v c : Nat) : Nat := (v * c + 15) / 16

/-- Confirmed plus reserved fill (R100). -/
def Bin.sum (b : Bin) : Nat := b.confirmed + b.reserved

/-- The fit test of R102 for a container of volume `v`. -/
def Bin.fits (b : Bin) (v : Nat) : Bool := b.sum + compactedVolume v b.ratio ≤ b.capacity

/-- Whether a bin is SERVING and holds a material (R26, R99). -/
def Bin.serves (b : Bin) (material : Nat) : Bool := b.state == .serving && b.material == material

/-- The bins of a material that are SERVING and fit (R29, R69). -/
def State.fittingBins (s : State) (material v : Nat) : List BinId :=
  binIds.filter fun b => (s.bin b).serves material && (s.bin b).fits v

/-- The sum that the fullest-first rule compares (R103). -/
def State.choiceSum (s : State) (v : Nat) (b : BinId) : Nat := (s.bin b).sum + compactedVolume v (s.bin b).ratio

/-- The better of the choice so far and a bin on a higher chute: the greater sum, the lower chute on ties (R103). -/
def State.fuller (s : State) (v : Nat) (best : Option BinId) (b : BinId) : Option BinId :=
  match best with
  | none => some b
  | some a => if s.choiceSum v a < s.choiceSum v b then some b else some a

/-- The bin chosen for a container of a material and volume, if any fits (R103). -/
def State.chooseBin (s : State) (material v : Nat) : Option BinId :=
  (s.fittingBins material v).foldl (s.fuller v) none

/-- The WARN test of R105 on one bin. -/
def State.warnTest (s : State) (b : BinId) : State :=
  let r := s.bin b
  if !r.warn && r.warningMark ≤ r.sum then (s.setBin b { r with warn := true }).raise .office .bin else s

/-- Reserve a volume in a bin at a grant, and make the WARN test (R104). -/
def State.reserve (s : State) (b : BinId) (v : Nat) : State :=
  (s.setBin b { s.bin b with reserved := (s.bin b).reserved + v }).warnTest b

/-- The state that a drain target names (R108). -/
def DrainTarget.state : DrainTarget → BinState
  | .out => .out
  | .released => .released

/-- Complete a drain whose last reservation has gone, with the BIN notice (R108). -/
def State.drainIfEmpty (s : State) (b : BinId) : State :=
  let r := s.bin b
  match r.state with
  | .draining t => if r.reserved = 0 then (s.setBin b { r with state := t.state }).raise .office .bin else s
  | _ => s

/-- A match into a bin: the volume moves from reserved to confirmed fill, and the item count rises (R90). -/
def State.confirmFill (s : State) (b : BinId) (v : Nat) : State :=
  let r := s.bin b
  (s.setBin b { r with reserved := r.reserved - v, confirmed := r.confirmed + v,
                       items := min (r.items + 1) Config.itemMax }).drainIfEmpty b

/-- A missing declaration for a bin: the reservation is released (R91). -/
def State.releaseFill (s : State) (b : BinId) (v : Nat) : State :=
  let r := s.bin b
  (s.setBin b { r with reserved := r.reserved - v }).drainIfEmpty b

end Sys2Proof.Machine
end

