-- ==== Sys2Proof/Machine/SessionOps.lean ====
section
/-! DEFINITION. Vouchers and sessions as the other blocks use them: the issue of a voucher (R120), the free-slot stack
(R117), the refusal of a waiting claim (R43), the detaching of records (R52) and the session close (R49 to R53). -/

namespace Sys2Proof.Machine

/-! ### Voucher Table -/

/-- Push a slot onto the top of the free-slot stack (R117). -/
def VoucherTable.push (t : VoucherTable) (i : SlotId) : VoucherTable := { t with stack := i :: t.stack }

/-- Issue a voucher in a slot: the serial rises and becomes the voucher's, the slot enters ISSUED, and the issued and
outstanding amounts rise (R120). -/
def VoucherTable.issue (t : VoucherTable) (i : SlotId) (v : Voucher) : VoucherTable :=
  let serial := t.serial + 1
  { t with
    serial := serial
    slots := (t.setSlot i (.issued { v with serial := serial })).slots
    totals := { t.totals with issued := satAdd t.totals.issued v.amount }
    outstanding := t.outstanding + v.amount }

/-- Hand the slot of an ended session back: issued as a voucher where the amount is above 0, otherwise pushed (R49 step 2,
R148 step 2). -/
def VoucherTable.settleSlot (t : VoucherTable) (i : SlotId) (v : Voucher) : VoucherTable :=
  if 0 < v.amount then t.issue i v else t.push i

/-! ### Waiting claims -/

/-- The waiting claim of a lane, if it has one (R59). -/
def State.claimOf (s : State) (k : LaneId) : Option Claim := s.merge.claims.find? fun c => c.lane == k

/-- Take a lane's claim out of the set; the others keep their order (R59). -/
def State.dropClaim (s : State) (k : LaneId) : State :=
  { s with merge := { s.merge with claims := s.merge.claims.filter fun c => !(c.lane == k) } }

/-- Refuse a lane's waiting claim: it becomes absent and its CONTAINER is answered with the reason (R43). -/
def State.refuseClaim (s : State) (k : LaneId) (reason : Reason) : State :=
  (s.dropClaim k).answer (.lane k) (.refuse ReqKind.container.code reason 0)

/-- Provisional credit: in-transit credit plus the deposit of the waiting claim (R38). -/
def State.provisionalCredit (s : State) (k : LaneId) : Nat :=
  (s.lane k).transitCredit + ((s.claimOf k).map Claim.deposit).getD 0

/-- Provisional count (R38). -/
def State.provisionalCount (s : State) (k : LaneId) : Nat :=
  (s.lane k).transitCount + if (s.claimOf k).isSome then 1 else 0

/-! ### Session close -/

/-- Detach every record attached to a lane's session; nothing else of a record changes (R52). -/
def detachAll (k : LaneId) (q : List TransitRecord) : List TransitRecord :=
  q.map fun r => if r.lane == k then { r with attached := false } else r

/-- The voucher values that a close hands over (R49 steps 1 and 2); the serial is written at the issue. -/
def Lane.closeVoucher (l : Lane) (k : LaneId) (power : Bool) : Voucher :=
  { serial := 0, amount := l.firmCredit + l.unconfirmedCredit, count := l.firmCount + l.unconfirmedCount,
    unconfirmed := l.unconfirmedCount, lane := k, powerClosed := power, recovered := false }

/-- The last-close record that a close writes, with the table after the issue or push (R49 step 4). -/
def Lane.closeRecord (l : Lane) (k : LaneId) (power : Bool) (after : VoucherTable) : CloseRecord :=
  let v := l.closeVoucher k power
  { voucher := if 0 < v.amount then l.slot.map (fun i => (i, after.serial)) else none
    amount := v.amount, count := v.count, unconfirmed := v.unconfirmed, powerClosed := power }

/-- The response to an END that a close answers (R49 step 4). -/
def CloseRecord.response (c : CloseRecord) : Response :=
  match c.voucher with
  | some (i, serial) => .voucher i serial c.amount c.count c.unconfirmed (voucherFlags c.powerClosed false)
  | none => .noVoucher c.count c.unconfirmed (voucherFlags c.powerClosed false)

/-- Answer the END of a lane, if one is in flight (R49 step 4). -/
def State.answerEnd (s : State) (k : LaneId) (r : Response) : State :=
  if (s.port (.lane k)).inFlight = some .endSession then s.answer (.lane k) r else s

/-- The lane context after a close: the cold values with the close record, PARKED for a park-pending lane or a supply
close and READY otherwise; entering PARKED clears park-pending (R49 steps 5 and 6). -/
def Lane.afterClose (parks : Bool) (c : CloseRecord) : Lane :=
  { Lane.cold with state := if parks then .parked else .ready, lastClose := some c }

/-- The steps of R49, with the unconfirmed figures already formed; the STATE notice where the lane parks (R57). -/
def State.closeSession (s : State) (k : LaneId) (power : Bool) : State :=
  let l := s.lane k
  let table := match l.slot with
    | some i => s.table.settleSlot i (l.closeVoucher k power)
    | none => s.table
  let record := l.closeRecord k power table
  let parks := l.parkPending || power
  let s := { s with table := table, transit := detachAll k s.transit }
  let s := (s.setLane k (.afterClose parks record)).answerEnd k record.response
  if parks then s.raise (.lane k) .state else s

/-- In-transit credit and count become the unconfirmed figures (R51, R53). -/
def State.countUnconfirmed (s : State) (k : LaneId) : State :=
  let l := s.lane k
  s.setLane k { l with unconfirmedCredit := l.transitCredit, unconfirmedCount := l.transitCount }

/-- The ordinary close: the unconfirmed figures are 0 (R50). -/
def State.ordinaryClose (s : State) (k : LaneId) : State :=
  let l := s.lane k
  (s.setLane k { l with unconfirmedCredit := 0, unconfirmedCount := 0 }).closeSession k false

/-- The limit close (R51). -/
def State.limitClose (s : State) (k : LaneId) : State := (s.countUnconfirmed k).closeSession k false

/-- The supply close (R53). -/
def State.supplyClose (s : State) (k : LaneId) : State := (s.countUnconfirmed k).closeSession k true

/-- Close a SETTLING session whose in-transit count has reached 0 (R50). -/
def State.closeIfSettled (s : State) (k : LaneId) : State :=
  if (s.lane k).state = .settling ∧ (s.lane k).transitCount = 0 then s.ordinaryClose k else s

end Sys2Proof.Machine
end

