-- ==== Sys2Proof/Machine/MergeOps.lean ====
section
/-! DEFINITION. The Merge Arbiter's pass over the waiting claims and the grant (Chapter 4). -/

namespace Sys2Proof.Machine

/-- The candidate due of lane `k` at count `e` (R67). -/
def State.candidateDue (s : State) (k : LaneId) (e : Count) : Count :=
  e + BitVec.ofNat 16 ((s.lanePart k).offset + (s.lanePart k).dropLead)

/-- Whether a due is clear of a record at a gap (R68). -/
def clearOf (gap : Nat) (d : Count) (r : TransitRecord) : Bool := gap ≤ (signedDistance r.due d).natAbs

/-- Whether a due is clear of the whole queue (R68). -/
def State.clearOfQueue (s : State) (d : Count) : Bool := s.transit.all (clearOf s.corner.gap d)

/-- Whether lane `k` accepts a material in the active plan (R26, R69). -/
def State.accepts (s : State) (k : LaneId) (material : Nat) : Bool := (s.lanePart k).materials.getLsbD material

/-- Conditions 1 to 3 of R66 for a claim at the current count. -/
def State.mayMerge (s : State) (c : Claim) : Bool :=
  !s.merge.held && s.occupancy < Config.queueCapacity && s.clearOfQueue (s.candidateDue c.lane s.belt.count)

/-- Condition 4 of R66 with the choice of R74: the bin of a claim whose material its lane accepts. -/
def State.binFor (s : State) (c : Claim) : Option BinId :=
  if s.accepts c.lane c.material then s.chooseBin c.material c.volume else none

/-- Insert a record at its place by due: after every record nearer than itself (R78). -/
def insertByDue (e : Count) (r : TransitRecord) : List TransitRecord → List TransitRecord
  | [] => [r]
  | q :: rest => if signedDistance e q.due < signedDistance e r.due then q :: insertByDue e r rest else r :: q :: rest

/-- The record that a grant of a claim into a bin forms (R75 step 2). -/
def State.grantedRecord (s : State) (c : Claim) (b : BinId) : TransitRecord :=
  { lane := c.lane, attached := true, deposit := c.deposit, bin := b,
    volume := compactedVolume c.volume (s.bin b).ratio, due := s.candidateDue c.lane s.belt.count }

/-- Insert a granted record; the occupancy rises, merge-hold is evaluated and held formed again (R75 step 3, R64). -/
def State.insertRecord (s : State) (r : TransitRecord) : State :=
  let s := { s with transit := insertByDue s.belt.count r s.transit }
  (s.setMergeHold s.holdAfterInsertion).reformHeld

/-- Move a granted claim's deposit into in-transit credit (R42). -/
def State.creditTransit (s : State) (k : LaneId) (deposit : Nat) : State :=
  let l := s.lane k
  s.setLane k { l with transitCredit := l.transitCredit + deposit, transitCount := l.transitCount + 1 }

/-- The GRANT response, with the values after the grant (R76). -/
def State.grantResponse (s : State) (c : Claim) (r : TransitRecord) : Response :=
  .grant (chuteOf r.bin) r.due c.cls c.deposit (s.lane c.lane).firmCredit (s.provisionalCredit c.lane)

/-- The six steps of a grant (R75). -/
def State.grant (s : State) (c : Claim) (b : BinId) : State :=
  let r := s.grantedRecord c b
  let s := ((((s.dropClaim c.lane).insertRecord r).reserve b r.volume).creditTransit c.lane c.deposit)
  s.answer (.lane c.lane) (s.grantResponse c r)

/-- Decide one claim of a pass (R72). -/
def State.decideClaim (s : State) (c : Claim) : State :=
  if s.mayMerge c then
    match s.binFor c with
    | some b => s.grant c b
    | none => s.refuseClaim c.lane .materialFull
  else s

/-- One pass over the waiting-claim set, oldest first (R70, R71). -/
def State.mergePass (s : State) : State := s.merge.claims.foldl State.decideClaim s

/-- The pass that a change of held from yes to no causes (R63, R70; log entry 16). -/
def State.passIfReleased (after before : State) : State :=
  if before.merge.held && !after.merge.held then after.mergePass else after

end Sys2Proof.Machine
end

