-- ==== Sys2Proof/Machine/GateOps.lean ====
section
/-! DEFINITION. The Gate Matcher (Chapter 5): the window of the head, match, missing and stray, the decision of a
leading edge, and what an advance of the encoder count does at its three takers. -/

namespace Sys2Proof.Machine

/-- The position of a count against a head's window (R81). -/
inductive WindowPosition where
  | early
  | inWindow
  | missingPoint
  | late
  deriving DecidableEq, Repr

/-- Place a count by the signed distance from the due (R81). -/
def windowPosition (tolerance : Nat) (due x : Count) : WindowPosition :=
  let d := signedDistance due x
  if d < -(tolerance : Int) then .early
  else if d ≤ tolerance then .inWindow
  else if d = tolerance + 1 then .missingPoint
  else .late

/-- Remove the head: the rest is the queue, merge-hold is evaluated and held formed again (R79, R64). -/
def State.removeHead (s : State) (rest : List TransitRecord) : State :=
  let s := { s with transit := rest }
  (s.setMergeHold s.holdAfterRemoval).reformHeld

/-- A confirmation's part in its session (R45). -/
def State.confirmCredit (s : State) (r : TransitRecord) : State :=
  if r.attached then
    let l := s.lane r.lane
    (s.setLane r.lane { l with transitCredit := l.transitCredit - r.deposit, transitCount := l.transitCount - 1,
                               firmCredit := l.firmCredit + r.deposit, firmCount := l.firmCount + 1 }).closeIfSettled r.lane
  else s

/-- Replace the period totals. -/
def State.setTotals (s : State) (t : Totals) : State := { s with table := { s.table with totals := t } }

/-- A match of the head (R86). -/
def State.matchHead (s : State) (r : TransitRecord) (rest : List TransitRecord) : State :=
  let s := s.removeHead rest
  let s := { s with chute := ⟨chuteOf r.bin, by unfold chuteOf; omega⟩ }
  let s := (s.confirmFill r.bin r.volume).confirmCredit r
  s.setTotals { s.table.totals with confirmed := satAdd s.table.totals.confirmed 1 }

/-- A missing declaration's part in its session, or in the paid-unreturned total for an orphan (R46, R87 step 3). -/
def State.loseCredit (s : State) (r : TransitRecord) : State :=
  if r.attached then
    let l := s.lane r.lane
    ((s.setLane r.lane { l with transitCredit := l.transitCredit - r.deposit,
                                transitCount := l.transitCount - 1 }).raise (.lane r.lane) .credit).closeIfSettled r.lane
  else s.setTotals { s.table.totals with paidUnreturned := satAdd s.table.totals.paidUnreturned r.deposit }

/-- A missing declaration of the head (R87). -/
def State.missHead (s : State) (r : TransitRecord) (rest : List TransitRecord) : State :=
  let s := ((s.removeHead rest).releaseFill r.bin r.volume).loseCredit r
  s.setTotals { s.table.totals with missing := satAdd s.table.totals.missing 1 }

/-- Raise the reject-chute count and evaluate at-limit, whose change is reported to the Merge Arbiter (R92, R112). -/
def State.countReject (s : State) : State :=
  (State.evalAtLimit { s with reject := { s.reject with count := min (s.reject.count + 1) Config.rejectMax } }).reformHeld

/-- A stray (R88). -/
def State.stray (s : State) : State :=
  let s := State.countReject { s with chute := 0 }
  (s.setTotals { s.table.totals with strays := satAdd s.table.totals.strays 1 }).raise .office .reject

/-- The second decision of a late edge, with the passes of both removals after it (R83, R84). -/
def State.decideAgain (s : State) (e : Count) : State :=
  match s.transit with
  | [] => s.stray.mergePass
  | r :: rest =>
    if windowPosition s.corner.tolerance r.due e = .inWindow then (s.matchHead r rest).mergePass.mergePass
    else s.stray.mergePass

/-- The decision of a leading edge at count `e` (R82, R83), with the pass that follows a removal (R95). -/
def State.decideEdge (s : State) (e : Count) : State :=
  match s.transit with
  | [] => s.stray
  | r :: rest =>
    match windowPosition s.corner.tolerance r.due e with
    | .early => s.stray
    | .inWindow => (s.matchHead r rest).mergePass
    | .missingPoint => (s.missHead r rest).decideAgain e
    | .late => (s.missHead r rest).decideAgain e

/-- Belt Control's part of a leading edge: the eye level, the jam watch at E, and the hand-over (R9, R10, R12). -/
def State.takeEdge (s : State) : State :=
  let s := { s with belt := { s.belt with eyeBlocked := true, watch := some s.belt.count } }
  s.decideEdge s.belt.count

/-! ### An advance of the encoder count -/

/-- The Gate Matcher's part of an advance: a head at its missing point is declared missing (R85), with the pass of its
removal (R95). -/
def State.gateAdvance (s : State) : State :=
  match s.transit with
  | [] => s
  | r :: rest =>
    if windowPosition s.corner.tolerance r.due s.belt.count = .missingPoint then (s.missHead r rest).mergePass else s

/-- Declare a jam: the watch becomes idle, the belt stops and the BELT notice is set (R12). -/
def State.declareJam (s : State) : State :=
  (State.reevaluateRunning { s with belt := { s.belt with jam := true, watch := none } }).raise .office .belt

/-- The jam watch's part of an advance (R12). -/
def State.jamAdvance (s : State) : State :=
  match s.belt.watch with
  | some start => if (s.corner.jamLength : Int) ≤ signedDistance start s.belt.count then s.declareJam else s
  | none => s

/-- The three takers of an advance (R4). -/
inductive Taker where
  | jam
  | gate
  | merge
  deriving DecidableEq, Repr

/-- The takers in the order that the command carries (R4, R73; DESIGN CHOICE, log entry 1). -/
def takersOf : AdvanceOrder → List Taker
  | .jamGateMerge => [.jam, .gate, .merge]
  | .jamMergeGate => [.jam, .merge, .gate]
  | .gateJamMerge => [.gate, .jam, .merge]
  | .gateMergeJam => [.gate, .merge, .jam]
  | .mergeJamGate => [.merge, .jam, .gate]
  | .mergeGateJam => [.merge, .gate, .jam]

/-- One taker's part of an advance. -/
def State.takeAdvance (s : State) : Taker → State
  | .jam => s.jamAdvance
  | .gate => s.gateAdvance
  | .merge => s.mergePass

/-- The count advances by one and wraps (R3). -/
def State.advanceCount (s : State) : State := { s with belt := { s.belt with count := s.belt.count + 1 } }

/-- A pulse with the hand-over to its takers (R3, R4). -/
def State.pulse (s : State) (order : AdvanceOrder) : State :=
  (takersOf order).foldl State.takeAdvance s.advanceCount

/-- One taker's part where a leading edge carrying the new count reaches the Gate Matcher before it takes the advance
(R83, the edge taken first). -/
def State.takeAdvanceAfterEdge (s : State) : Taker → State
  | .jam => s.jamAdvance
  | .gate => s.takeEdge.gateAdvance
  | .merge => s.mergePass

/-- A pulse and a leading edge together, the pulse first at Belt Control and the edge first at the Gate Matcher (R83; log entry 5). -/
def State.pulseWithEdge (s : State) (order : AdvanceOrder) : State :=
  (takersOf order).foldl State.takeAdvanceAfterEdge s.advanceCount

end Sys2Proof.Machine
end

