-- ==== Sys2Proof/Machine/Field.lean ====
section
/-! DEFINITION. The commands of the belt's field lines: ENC, EYE and ESTOP (Chapter 1). -/

namespace Sys2Proof.Machine

/-- The meaning of ENCODER_PULSE (R3, R4). -/
def execEncoderPulse (order : AdvanceOrder) (s : State) : Host.Outcome State Fault Refusal :=
  .next (s.whenUp fun s => s.pulse order)

/-- A leading edge: with the eye already blocked EYE does not change, so no edge is taken (R9; DEDUCED, log entry
8); a pulse that comes together with it is taken in either case (log entry 5). -/
def State.leadingEdge (s : State) (pulse : Option AdvanceOrder) : State :=
  match pulse, s.belt.eyeBlocked with
  | none, false => s.takeEdge
  | none, true => s
  | some order, false => s.pulseWithEdge order
  | some order, true => s.pulse order

/-- The meaning of LEADING_EDGE (R10). -/
def execLeadingEdge (pulse : Option AdvanceOrder) (s : State) : Host.Outcome State Fault Refusal :=
  .next (s.whenUp fun s => s.leadingEdge pulse)

/-- A trailing edge ends the jam watch and leaves a declared jam (R11). -/
def State.trailingEdge (s : State) : State :=
  if s.belt.eyeBlocked then { s with belt := { s.belt with eyeBlocked := false, watch := none } } else s

/-- The meaning of TRAILING_EDGE (R11). -/
def execTrailingEdge (s : State) : Host.Outcome State Fault Refusal := .next (s.whenUp State.trailingEdge)

/-- The emergency stop is pressed: the belt stops and the BELT notice is set on each assertion (R8; log entry 9). -/
def State.pressEstop (s : State) : State :=
  (State.reevaluateRunning { s with belt := { s.belt with estopPressed := true } }).raise .office .belt

/-- The meaning of ESTOP_ASSERTED (R8). -/
def execEstopAsserted (s : State) : Host.Outcome State Fault Refusal := .next (s.whenUp State.pressEstop)

/-- The emergency stop is released: the belt resumes if the other conditions hold, with the pass of a released hold (R8,
R63). -/
def State.releaseEstop (s : State) : State :=
  (State.reevaluateRunning { s with belt := { s.belt with estopPressed := false } }).passIfReleased s

/-- The meaning of ESTOP_RELEASED (R8). -/
def execEstopReleased (s : State) : Host.Outcome State Fault Refusal := .next (s.whenUp State.releaseEstop)

end Sys2Proof.Machine
end

