-- ==== Sys2Proof/Machine/Recognition.lean ====
section
/-! DEFINITION. The Recognition Unit (Chapter 2): the lookup, the eight checks of a classification, the joining of a
claim, and the disposal of tariff records. -/

namespace Sys2Proof.Machine

/-- Whether an enabled entry matches a reported key (R19). -/
def RecogEntry.matches (e : RecogEntry) (key : ArticleKey) : Bool := e.enable && (key &&& e.mask) == (e.key &&& e.mask)

/-- The recognition lookup: the class of the first enabled entry that matches (R19). -/
def Recognition.lookup (r : Recognition) (key : ArticleKey) : Option ClassId :=
  (r.entries.toList.find? fun e => e.matches key).map RecogEntry.cls

/-- A tariff class by number (R22). -/
def Recognition.tariff (r : Recognition) (c : ClassId) : TariffClass := r.classes[c]

/-- Whether some bin of a material is SERVING (R26). -/
def State.materialServed (s : State) (material : Nat) : Bool := binIds.any fun b => (s.bin b).serves material

/-- Checks 3 to 8 of Table 2-4 on the class found; `none` is acceptance (R25 to R29). -/
def State.checkClass (s : State) (k : LaneId) (rep : Report) (c : TariffClass) : Option Reason :=
  if c.material = 0 then some .classOff
  else if !(s.accepts k c.material && s.materialServed c.material) then some .materialClosed
  else if !(c.weightMin ≤ rep.weight && rep.weight ≤ c.weightMax) then some .weight
  else if c.shapeRequired && !rep.shapeOk then some .shape
  else if !((s.lane k).firmCredit + s.provisionalCredit k + c.deposit ≤ Config.voucherCeiling &&
      (s.lane k).firmCount + s.provisionalCount k + 1 ≤ Config.containerLimit) then some .sessionFull
  else if (s.fittingBins c.material c.volume).isEmpty then some .materialFull
  else none

/-- The classification of a report: a class, or the reason of the first check that fails (R24, Table 2-4). -/
def State.classify (s : State) (k : LaneId) (rep : Report) : Except Reason ClassId :=
  match rep.key with
  | none => .error .noMark
  | some key =>
    match s.recog.lookup key with
    | none => .error .unknown
    | some cls =>
      match s.checkClass k rep (s.recog.tariff cls) with
      | some reason => .error reason
      | none => .ok cls

/-- The claim that an accepted container becomes (R30, R60). -/
def State.newClaim (s : State) (k : LaneId) (cls : ClassId) : Claim :=
  let c := s.recog.tariff cls
  { lane := k, cls := cls, deposit := c.deposit, material := c.material, volume := c.volume, elapsed := 0,
    limit := s.corner.claimWaitLimit }

/-- A claim joins at the end of the set (R59). -/
def State.joinClaim (s : State) (c : Claim) : State :=
  { s with merge := { s.merge with claims := s.merge.claims ++ [c] } }

/-! ### The tariff load cursor (Chapter 2.4) -/

/-- What a TARIFF-DATA frame has done so far: the classes, the index and the three record counts (R34, R35). -/
structure TariffLoad where
  classes    : Vector TariffClass 32
  index      : Nat
  written    : Nat
  rejected   : Nat
  overflowed : Nat
  deriving DecidableEq, Repr

/-- Dispose of one complete record by the cursor index (R35). -/
def TariffLoad.dispose (l : TariffLoad) (record : List Byte) : TariffLoad :=
  if h : l.index < 32 then
    match TariffClass.decode record with
    | some c => { l with classes := l.classes.set l.index c h, index := l.index + 1, written := l.written + 1 }
    | none => { l with index := l.index + 1, rejected := l.rejected + 1 }
  else { l with overflowed := l.overflowed + 1 }

/-- Append one byte to the partial bytes; the tenth completes a record (R34). -/
def tariffByte (acc : TariffLoad × List Byte) (b : Byte) : TariffLoad × List Byte :=
  let held := acc.2 ++ [b]
  if held.length = 10 then (acc.1.dispose held, []) else (acc.1, held)

/-- Take the bytes of a frame in order (R34). -/
def Recognition.load (r : Recognition) (c : Cursor) (bytes : List Byte) : TariffLoad × List Byte :=
  bytes.foldl tariffByte
    ({ classes := r.classes, index := c.index, written := 0, rejected := 0, overflowed := 0 }, c.bytes)

end Sys2Proof.Machine
end

