-- ==== Sys2Proof/Machine/LaneRequests.lean ====
section
/-! DEFINITION. The five lane requests (Chapter 3). -/

namespace Sys2Proof.Machine

/-- OPEN at the Session Unit (R40). -/
def takeOpen (k : LaneId) (s : State) : State :=
  match (s.lane k).state with
  | .ready =>
    match s.table.stack with
    | i :: rest =>
      let s := { s with table := { s.table with stack := rest } }
      (s.setLane k { Lane.cold with state := .active, slot := some i, parkPending := (s.lane k).parkPending }).respond
        (.lane k) (.opened k i)
    | [] => s.refuse (.lane k) ReqKind.openSession.code .tableFull
  | _ => s.refuse (.lane k) ReqKind.openSession.code .state

/-- The meaning of OPEN (R40): its frame completes on lane link `k`. -/
def execOpen (k : LaneId) (s : State) : Host.Outcome State Fault Refusal :=
  .next (s.requestCompletes (.lane k) .openSession 0 (takeOpen k))

/-- CONTAINER at the Session Unit: the range check, the lane state, classification, and the joining of the claim with the
pass that follows it (R23, R24, R30, R41, R60). -/
def takeContainer (k : LaneId) (r : RawReport) (s : State) : State :=
  match reportOf r with
  | none => s.refuse (.lane k) ReqKind.container.code .range
  | some rep =>
    if (s.lane k).state = .active then
      match s.classify k rep with
      | .error reason => s.refuse (.lane k) ReqKind.container.code reason
      | .ok cls => ((s.joinClaim (s.newClaim k cls)).keepInFlight (.lane k) .container).mergePass
    else s.refuse (.lane k) ReqKind.container.code .state

/-- The meaning of CONTAINER (R41). -/
def execContainer (k : LaneId) (r : RawReport) (s : State) : Host.Outcome State Fault Refusal :=
  .next (s.requestCompletes (.lane k) .container 10 (takeContainer k r))

/-- A lane enters SETTLING: the settle timer starts at 0 ms with the active settle limit, and END stays in flight (R47,
R48). -/
def State.beginSettling (s : State) (k : LaneId) : State :=
  (s.setLane k { s.lane k with state := .settling, settle := some { elapsed := 0, limit := s.corner.settleLimit } }).keepInFlight
    (.lane k) .endSession

/-- END at the Session Unit (R47). -/
def takeEnd (k : LaneId) (s : State) : State :=
  match (s.lane k).state with
  | .active =>
    if (s.lane k).transitCount = 0 then (s.keepInFlight (.lane k) .endSession).ordinaryClose k else s.beginSettling k
  | _ => s.refuse (.lane k) ReqKind.endSession.code .state

/-- The meaning of END (R47). -/
def execEnd (k : LaneId) (s : State) : Host.Outcome State Fault Refusal :=
  .next (s.requestCompletes (.lane k) .endSession 0 (takeEnd k))

/-- CANCEL at the Session Unit: it acts on whatever the lane has in flight (R44, R158). -/
def takeCancel (k : LaneId) (s : State) : State :=
  match (s.port (.lane k)).inFlight with
  | some .container => s.refuseClaim k .cancelled
  | some _ => s.refuse (.lane k) ReqKind.cancel.code .state
  | none => s.refuse (.lane k) ReqKind.cancel.code .idle

/-- The meaning of CANCEL (R44). -/
def execCancel (k : LaneId) (s : State) : Host.Outcome State Fault Refusal :=
  .next (s.requestCompletes (.lane k) .cancel 0 (takeCancel k))

/-- What LANE-STATE shows of a lane (R58). -/
def State.laneView (s : State) (k : LaneId) : LaneView :=
  let l := s.lane k
  { state := l.state, held := s.merge.held, parkPending := l.parkPending, waiting := (s.claimOf k).isSome,
    slot := l.slot, firmCredit := l.firmCredit, firmCount := l.firmCount, provisionalCredit := s.provisionalCredit k,
    provisionalCount := s.provisionalCount k, lastClose := l.lastClose }

/-- LANE-QUERY at the Session Unit (R58). -/
def takeLaneQuery (k : LaneId) (s : State) : State := s.respond (.lane k) (.laneState (s.laneView k))

/-- The meaning of LANE-QUERY (R58). -/
def execLaneQuery (k : LaneId) (s : State) : Host.Outcome State Fault Refusal :=
  .next (s.requestCompletes (.lane k) .laneQuery 0 (takeLaneQuery k))

end Sys2Proof.Machine
end

