-- ==== Sys2Proof/Machine/CheckoutRequests.lean ====
section
/-! DEFINITION. The three checkout requests (Chapter 7.5). -/

namespace Sys2Proof.Machine

/-- A presented code that passed the six tests: its checkout, slot and voucher, with the claimant if it is CLAIMED. -/
structure Presented where
  checkout : Nat
  slot     : SlotId
  voucher  : Voucher
  claimant : Option Nat
  deriving DecidableEq, Repr

/-- Tests 4 to 6 of R122 on the number N. -/
def VoucherTable.find (t : VoucherTable) (checkout n : Nat) : Except Reason Presented :=
  if h : n / 65536 < 128 then
    match t.slot ⟨n / 65536, h⟩ with
    | .free => .error .noVoucher
    | .issued v =>
      if v.serial.toNat = n % 65536 then
        .ok { checkout := checkout, slot := ⟨n / 65536, h⟩, voucher := v, claimant := none }
      else .error .noVoucher
    | .claimed v c _ =>
      if v.serial.toNat = n % 65536 then
        .ok { checkout := checkout, slot := ⟨n / 65536, h⟩, voucher := v, claimant := some c }
      else .error .noVoucher
  else .error .noVoucher

/-- The six tests of R122 on a checkout request, in their order. -/
def VoucherTable.validate (t : VoucherTable) (checkout : Byte) (code : List Byte) : Except Reason Presented :=
  let digits := code.map BitVec.toNat
  if !(1 ≤ checkout.toNat && checkout.toNat ≤ 15) then .error .range
  else if !(digits.all (· ≤ 9)) then .error .range
  else if digits.drop 7 ≠ [checkDigit (digits.take 7)] then .error .badCode
  else t.find checkout.toNat (digitsNumber (digits.take 7))

/-- Replace the Voucher Table. -/
def State.setTable (s : State) (t : VoucherTable) : State := { s with table := t }

/-- CLAIM at the Voucher Table (R123). -/
def takeClaim (checkout : Byte) (code : List Byte) (s : State) : State :=
  match s.table.validate checkout code with
  | .error reason => s.refuse .checkout ReqKind.claim.code reason
  | .ok p =>
    if p.claimant = none ∨ p.claimant = some p.checkout then
      (s.setTable (s.table.setSlot p.slot (.claimed p.voucher p.checkout 0))).respond .checkout
        (.claimed checkout p.slot p.voucher)
    else s.refuse .checkout ReqKind.claim.code .claimedElsewhere

/-- The meaning of CLAIM (R123). -/
def execClaim (checkout : Byte) (code : List Byte) (s : State) : Host.Outcome State Fault Refusal :=
  .next (s.requestCompletes .checkout .claim (code.length + 1) (takeClaim checkout code))

/-- A voucher leaves the table: the slot enters FREE and is pushed, and the outstanding amount falls (R124 steps 3 to 5,
R130 steps 2 to 4). -/
def VoucherTable.remove (t : VoucherTable) (i : SlotId) (v : Voucher) : VoucherTable :=
  { (t.setSlot i .free).push i with outstanding := t.outstanding - v.amount }

/-- REDEEM by the claimant (R124). -/
def VoucherTable.redeem (t : VoucherTable) (i : SlotId) (v : Voucher) : VoucherTable :=
  { t.remove i v with totals := { t.totals with redeemed := satAdd t.totals.redeemed v.amount } }

/-- REDEEM at the Voucher Table (R124). -/
def takeRedeem (checkout : Byte) (code : List Byte) (s : State) : State :=
  match s.table.validate checkout code with
  | .error reason => s.refuse .checkout ReqKind.redeem.code reason
  | .ok p =>
    match p.claimant with
    | none => s.refuse .checkout ReqKind.redeem.code .notClaimed
    | some c =>
      if c = p.checkout then
        (s.setTable (s.table.redeem p.slot p.voucher)).respond .checkout
          (.redeemed checkout p.slot p.voucher.serial p.voucher.amount)
      else s.refuse .checkout ReqKind.redeem.code .claimedElsewhere

/-- The meaning of REDEEM (R124). -/
def execRedeem (checkout : Byte) (code : List Byte) (s : State) : Host.Outcome State Fault Refusal :=
  .next (s.requestCompletes .checkout .redeem (code.length + 1) (takeRedeem checkout code))

/-- UNCLAIM at the Voucher Table (R125). -/
def takeUnclaim (checkout : Byte) (code : List Byte) (s : State) : State :=
  match s.table.validate checkout code with
  | .error reason => s.refuse .checkout ReqKind.unclaim.code reason
  | .ok p =>
    match p.claimant with
    | none => s.refuse .checkout ReqKind.unclaim.code .notClaimed
    | some c =>
      if c = p.checkout then
        (s.setTable (s.table.setSlot p.slot (.issued p.voucher))).respond .checkout
          (.unclaimed checkout p.slot p.voucher.serial)
      else s.refuse .checkout ReqKind.unclaim.code .claimedElsewhere

/-- The meaning of UNCLAIM (R125). -/
def execUnclaim (checkout : Byte) (code : List Byte) (s : State) : Host.Outcome State Fault Refusal :=
  .next (s.requestCompletes .checkout .unclaim (code.length + 1) (takeUnclaim checkout code))

end Sys2Proof.Machine
end

