-- ==== Sys2Proof/Machine/OfficeRequests.lean ====
section
/-! DEFINITION. The office requests of Belt Control, the Recognition Unit, the Bin Table and the Voucher Table (Chapters
1, 2, 6 and 7). -/

namespace Sys2Proof.Machine

/-- Form a response on the office link. -/
def State.respondOffice (s : State) (r : Response) : State := s.respond .office r

/-- Refuse an office request. -/
def State.refuseOffice (s : State) (k : ReqKind) (reason : Reason) : State := s.refuse .office k.code reason

/-! ### Belt Control -/

/-- What CORNER-STATE shows (R16). -/
def State.cornerView (s : State) : CornerView :=
  { belt := s.belt, chute := s.chute, occupancy := s.occupancy, flags := s.cornerFlags, rejectCount := s.reject.count,
    binStates := binIds.map fun b => (s.bin b).stateByte, cause := s.supply.cause, recovered := s.supply.recovered }

/-- CORNER-STATUS (R16). -/
def takeCornerStatus (s : State) : State := s.respondOffice (.cornerState s.cornerView)

/-- The meaning of CORNER-STATUS (R16). -/
def execCornerStatus (s : State) : Host.Outcome State Fault Refusal :=
  .next (s.requestCompletes .office .cornerStatus 0 takeCornerStatus)

/-- Set or clear belt-enable, evaluate running, answer BELT-STATE, and make the pass of a released hold (R6, R7, R63). -/
def State.setBeltEnable (s : State) (on : Bool) : State :=
  let t := State.reevaluateRunning { s with belt := { s.belt with enable := on } }
  (t.respondOffice (.beltState t.belt)).passIfReleased s

/-- The meaning of BELT-ENABLE (R6). -/
def execBeltEnable (s : State) : Host.Outcome State Fault Refusal :=
  .next (s.requestCompletes .office .beltEnable 0 fun s => s.setBeltEnable true)

/-- The meaning of BELT-STOP (R6). -/
def execBeltStop (s : State) : Host.Outcome State Fault Refusal :=
  .next (s.requestCompletes .office .beltStop 0 fun s => s.setBeltEnable false)

/-- JAM-CLEAR at Belt Control (R13). -/
def takeJamClear (s : State) : State :=
  if s.belt.eyeBlocked then s.refuseOffice .jamClear .state
  else
    let t := State.reevaluateRunning { s with belt := { s.belt with jam := false } }
    (t.respondOffice (.beltState t.belt)).passIfReleased s

/-- The meaning of JAM-CLEAR (R13). -/
def execJamClear (s : State) : Host.Outcome State Fault Refusal :=
  .next (s.requestCompletes .office .jamClear 0 takeJamClear)

/-! ### Recognition Unit -/

/-- RECOG-WRITE (R20). -/
def takeRecogWrite (index enable : Byte) (key mask : ArticleKey) (cls : Byte) (s : State) : State :=
  match entryOf index, yesNo enable, classOf cls with
  | some i, some on, some c =>
    let e : RecogEntry := { enable := on, key := key, mask := mask, cls := c }
    State.respondOffice { s with recog := { s.recog with entries := s.recog.entries.set i.val e i.isLt } }
      (.recogEntry i e)
  | _, _, _ => s.refuseOffice .recogWrite .range

/-- The meaning of RECOG-WRITE (R20). -/
def execRecogWrite (index enable : Byte) (key mask : ArticleKey) (cls : Byte) (s : State) :
    Host.Outcome State Fault Refusal :=
  .next (s.requestCompletes .office .recogWrite 15 (takeRecogWrite index enable key mask cls))

/-- RECOG-READ (R21). -/
def takeRecogRead (index : Byte) (s : State) : State :=
  match entryOf index with
  | some i => s.respondOffice (.recogEntry i s.recog.entries[i])
  | none => s.refuseOffice .recogRead .range

/-- The meaning of RECOG-READ (R21). -/
def execRecogRead (index : Byte) (s : State) : Host.Outcome State Fault Refusal :=
  .next (s.requestCompletes .office .recogRead 1 (takeRecogRead index))

/-- TARIFF-BEGIN; the old cursor has been closed by the hand-over (R32, R33). -/
def takeTariffBegin (cls : Byte) (s : State) : State :=
  match classOf cls with
  | some c =>
    State.respondOffice { s with recog := { s.recog with cursor := some { index := c.val, bytes := [] } } }
      (.tariffAck c.val 0 0 0 0)
  | none => s.refuseOffice .tariffBegin .range

/-- The meaning of TARIFF-BEGIN (R33). -/
def execTariffBegin (cls : Byte) (s : State) : Host.Outcome State Fault Refusal :=
  .next (s.requestCompletes .office .tariffBegin 1 (takeTariffBegin cls))

/-- TARIFF-DATA (R34, R35). -/
def takeTariffData (bytes : List Byte) (s : State) : State :=
  match s.recog.cursor with
  | none => s.refuseOffice .tariffData .state
  | some c =>
    let (l, held) := s.recog.load c bytes
    State.respondOffice
      { s with recog := { s.recog with classes := l.classes, cursor := some { index := l.index, bytes := held } } }
      (.tariffAck l.index l.written l.rejected l.overflowed held.length)

/-- The meaning of TARIFF-DATA (R34). -/
def execTariffData (bytes : List Byte) (s : State) : Host.Outcome State Fault Refusal :=
  .next (s.requestCompletes .office .tariffData bytes.length (takeTariffData bytes))

/-- TARIFF-READ (R21). -/
def takeTariffRead (cls : Byte) (s : State) : State :=
  match classOf cls with
  | some c => s.respondOffice (.tariffClass c (s.recog.tariff c))
  | none => s.refuseOffice .tariffRead .range

/-- The meaning of TARIFF-READ (R21). -/
def execTariffRead (cls : Byte) (s : State) : Host.Outcome State Fault Refusal :=
  .next (s.requestCompletes .office .tariffRead 1 (takeTariffRead cls))

/-! ### Bin Table -/

/-- The state that a BIN-RELEASE takes a bin to; `none` is a refusal STATE (R107). -/
def Bin.releasedState (b : Bin) : Option BinState :=
  match b.state with
  | .serving => some (if b.reserved = 0 then .released else .draining .released)
  | .out => some .released
  | .draining _ => none
  | .released => none

/-- BIN-RELEASE (R107), with the pass that the bin's change causes (R70; DEDUCED, log entry 16). -/
def takeBinRelease (chute : Byte) (s : State) : State :=
  match binOf chute with
  | none => s.refuseOffice .binRelease .range
  | some b =>
    match (s.bin b).releasedState with
    | none => s.refuseOffice .binRelease .state
    | some st =>
      let r := { s.bin b with state := st }
      ((s.setBin b r).respondOffice (.releaseStarted b r)).mergePass

/-- The meaning of BIN-RELEASE (R107). -/
def execBinRelease (chute : Byte) (s : State) : Host.Outcome State Fault Refusal :=
  .next (s.requestCompletes .office .binRelease 1 (takeBinRelease chute))

/-- BIN-RETURN (R109), with the pass that the bin's change causes (R70). -/
def takeBinReturn (chute : Byte) (s : State) : State :=
  match binOf chute with
  | none => s.refuseOffice .binReturn .range
  | some b =>
    if (s.bin b).state = .released then
      let r := { s.bin b with state := .serving, confirmed := 0, items := 0, warn := false }
      ((s.setBin b r).respondOffice (.binRecord b r)).mergePass
    else s.refuseOffice .binReturn .state

/-- The meaning of BIN-RETURN (R109). -/
def execBinReturn (chute : Byte) (s : State) : Host.Outcome State Fault Refusal :=
  .next (s.requestCompletes .office .binReturn 1 (takeBinReturn chute))

/-- The REJECT-STATE response (R110). -/
def State.rejectResponse (s : State) : Response := .rejectState s.reject s.corner.rejectLimit

/-- BIN-READ: chute 0 answers REJECT-STATE (R110). -/
def takeBinRead (chute : Byte) (s : State) : State :=
  if chute = 0 then s.respondOffice s.rejectResponse
  else
    match binOf chute with
    | some b => s.respondOffice (.binRecord b (s.bin b))
    | none => s.refuseOffice .binRead .range

/-- The meaning of BIN-READ (R110). -/
def execBinRead (chute : Byte) (s : State) : Host.Outcome State Fault Refusal :=
  .next (s.requestCompletes .office .binRead 1 (takeBinRead chute))

/-- REJECT-CLEAR: the count is 0, at-limit is evaluated, and a released hold causes a pass (R113). -/
def takeRejectClear (s : State) : State :=
  let t := (State.evalAtLimit { s with reject := { s.reject with count := 0 } }).reformHeld
  (t.respondOffice t.rejectResponse).passIfReleased s

/-- The meaning of REJECT-CLEAR (R113). -/
def execRejectClear (s : State) : Host.Outcome State Fault Refusal :=
  .next (s.requestCompletes .office .rejectClear 0 takeRejectClear)

/-! ### Voucher Table -/

/-- The holder byte of a FREE slot: FFh on the stack, else the lane whose session holds it (R129, R171;
log entry 18). -/
def State.holderByte (s : State) (i : SlotId) : Byte :=
  if i ∈ s.table.stack then 0xFF
  else
    match laneIds.find? fun k => (s.lane k).slot == some i with
    | some k => BitVec.ofNat 8 k.val
    | none => 0xFF

/-- VOUCHER-READ (R129). -/
def takeVoucherRead (slot : Byte) (s : State) : State :=
  match slotOf slot with
  | some i => s.respondOffice (.voucherRecord i (s.table.slot i) (s.holderByte i))
  | none => s.refuseOffice .voucherRead .range

/-- The meaning of VOUCHER-READ (R129). -/
def execVoucherRead (slot : Byte) (s : State) : Host.Outcome State Fault Refusal :=
  .next (s.requestCompletes .office .voucherRead 1 (takeVoucherRead slot))

/-- The void of an ISSUED voucher (R130). -/
def VoucherTable.void (t : VoucherTable) (i : SlotId) (v : Voucher) : VoucherTable :=
  { t.remove i v with totals := { t.totals with voided := satAdd t.totals.voided v.amount } }

/-- VOUCHER-VOID (R130). -/
def takeVoucherVoid (slot : Byte) (serial : Serial) (s : State) : State :=
  match slotOf slot with
  | none => s.refuseOffice .voucherVoid .range
  | some i =>
    match s.table.slot i with
    | .free => s.refuseOffice .voucherVoid .noVoucher
    | .issued v =>
      if v.serial = serial then
        (s.setTable (s.table.void i v)).respondOffice (.voided i serial v.amount)
      else s.refuseOffice .voucherVoid .noVoucher
    | .claimed v _ _ => s.refuseOffice .voucherVoid (if v.serial = serial then .state else .noVoucher)

/-- The meaning of VOUCHER-VOID (R130). -/
def execVoucherVoid (slot : Byte) (serial : Serial) (s : State) : Host.Outcome State Fault Refusal :=
  .next (s.requestCompletes .office .voucherVoid 3 (takeVoucherVoid slot serial))

/-- The TOTALS response (R132, R133). -/
def State.totalsResponse (s : State) (closed : Bool) : Response :=
  .totals s.table.totals s.table.outstanding s.table.stack.length closed

/-- TOTALS-READ (R132). -/
def takeTotalsRead (s : State) : State := s.respondOffice (s.totalsResponse false)

/-- The meaning of TOTALS-READ (R132). -/
def execTotalsRead (s : State) : Host.Outcome State Fault Refusal :=
  .next (s.requestCompletes .office .totalsRead 0 takeTotalsRead)

/-- PERIOD-CLOSE: the values before zeroing are reported (R133). -/
def takePeriodClose (s : State) : State := (s.setTotals .zero).respondOffice (s.totalsResponse true)

/-- The meaning of PERIOD-CLOSE (R133). -/
def execPeriodClose (s : State) : Host.Outcome State Fault Refusal :=
  .next (s.requestCompletes .office .periodClose 0 takePeriodClose)

end Sys2Proof.Machine
end

