-- ==== Sys2Proof/Machine/Plans.lean ====
section
/-! DEFINITION. The Plan Unit (Chapter 8): staging, reading, the seven checks, and the apply. -/

namespace Sys2Proof.Machine

/-! ### Staging and reading -/

/-- Replace the staged plan. -/
def State.setStaged (s : State) (p : Plan) : State := { s with plans := { s.plans with staged := p } }

/-- PLAN-STAGE: one part of the staged plan is replaced whole (R136). -/
def takePlanStage (selector : Byte) (fields : RawPart) (s : State) : State :=
  match PartSel.ofByte selector with
  | none => s.refuseOffice .planStage .range
  | some .corner =>
    match globalPartOf fields with
    | some g => (s.setStaged { s.plans.staged with corner := g }).respondOffice (.planGlobal false g)
    | none => s.refuseOffice .planStage .range
  | some (.lane k) =>
    match lanePartOf fields with
    | some l =>
      (s.setStaged { s.plans.staged with lanes := s.plans.staged.lanes.set k.val l k.isLt }).respondOffice
        (.planLane false k l)
    | none => s.refuseOffice .planStage .range
  | some (.bin b) =>
    match binPartOf fields with
    | some p =>
      (s.setStaged { s.plans.staged with bins := s.plans.staged.bins.set b.val p b.isLt }).respondOffice
        (.planBin false b p)
    | none => s.refuseOffice .planStage .range

/-- The body length of a PLAN-STAGE by the fields it carries (R171). -/
def stageLength : RawPart → Nat
  | .globalPart .. => 14
  | .lanePart .. => 6
  | .binPart .. => 8

/-- The meaning of PLAN-STAGE (R136). -/
def execPlanStage (selector : Byte) (fields : RawPart) (s : State) : Host.Outcome State Fault Refusal :=
  .next (s.requestCompletes .office .planStage (stageLength fields) (takePlanStage selector fields))

/-- The PLAN-PART of a part of a plan (R137). -/
def Plan.partResponse (p : Plan) (active : Bool) : PartSel → Response
  | .corner => .planGlobal active p.corner
  | .lane k => .planLane active k p.lanes[k]
  | .bin b => .planBin active b p.bins[b]

/-- PLAN-READ (R137). -/
def takePlanRead (plan part : Byte) (s : State) : State :=
  match activeSelected plan, PartSel.ofByte part with
  | some active, some sel =>
    s.respondOffice ((if active then s.plans.active else s.plans.staged).partResponse active sel)
  | _, _ => s.refuseOffice .planRead .range

/-- The meaning of PLAN-READ (R137). -/
def execPlanRead (plan part : Byte) (s : State) : Host.Outcome State Fault Refusal :=
  .next (s.requestCompletes .office .planRead 2 (takePlanRead plan part))

/-! ### The seven checks (Table 8-4) -/

/-- The materials that an accepted-materials byte names (R171). -/
def materialsOf (m : Byte) : List Nat := [1, 2, 3, 4, 5, 6, 7].filter fun n => m.getLsbD n

/-- Whether some bin of a plan holds a material and has service SERVING (check 4). -/
def Plan.servesMaterial (p : Plan) (material : Nat) : Bool :=
  p.bins.toList.any fun b => b.service == .serving && b.material == material

/-- Check 4: every material of every staged-OPEN lane is served by the plan. -/
def Plan.lanesServed (p : Plan) : Bool :=
  p.lanes.toList.all fun l => !(l.mode == .opened) || (materialsOf l.materials).all p.servesMaterial

/-- Check 5: a bin whose material changes is empty of confirmed and reserved fill. -/
def State.materialChangesEmpty (s : State) : Bool :=
  binIds.all fun b =>
    s.plans.staged.bins[b].material == s.plans.active.bins[b].material ||
      ((s.bin b).confirmed == 0 && (s.bin b).reserved == 0)

/-- Check 6: capacities hold the fills, and warning marks lie within their capacities. -/
def State.capacitiesHold (s : State) : Bool :=
  binIds.all fun b =>
    (s.bin b).sum ≤ s.plans.staged.bins[b].capacity &&
      s.plans.staged.bins[b].warningMark ≤ s.plans.staged.bins[b].capacity

/-- Check 7: gap and tolerance change only with the transit queue empty. -/
def State.spacingKept (s : State) : Bool :=
  s.transit.isEmpty ||
    (s.plans.staged.corner.gap == s.plans.active.corner.gap &&
      s.plans.staged.corner.tolerance == s.plans.active.corner.tolerance)

/-- The seven checks in their order (R138). -/
def State.planChecks (s : State) : List Bool :=
  let p := s.plans.staged
  [p.inRange, 2 * p.corner.tolerance < p.corner.gap, p.corner.releaseMark < p.corner.holdMark, p.lanesServed,
    s.materialChangesEmpty, s.capacitiesHold, s.spacingKept]

/-- The number, from 1, of the first check that fails (R138). -/
def firstFailing : List Bool → Option Nat
  | [] => none
  | false :: _ => some 1
  | true :: rest => (firstFailing rest).map (· + 1)

/-! ### The apply (R139) -/

/-- A lane at an apply, from its state and its mode (R54, R55). -/
def Lane.atApply (l : Lane) (mode : LaneMode) : Lane :=
  match mode, l.state with
  | .opened, .parked => { l with state := .ready, parkPending := false }
  | .opened, _ => { l with parkPending := false }
  | .parked, .ready => { l with state := .parked, parkPending := false }
  | .parked, .parked => l
  | .parked, _ => { l with parkPending := true }

/-- Step 2 for one lane, with its STATE notice where state or park-pending changes (R57). -/
def State.applyLane (s : State) (k : LaneId) : State :=
  let l := s.lane k
  let l' := l.atApply (s.lanePart k).mode
  let s := s.setLane k l'
  if l'.state = l.state ∧ l'.parkPending = l.parkPending then s else s.raise (.lane k) .state

/-- The state of a bin at an apply (R140). -/
def Bin.stateAtApply (b : Bin) (service : Service) : BinState :=
  match service, b.state with
  | .serving, .out => .serving
  | .serving, .draining .out => .serving
  | .out, .serving => if b.reserved = 0 then .out else .draining .out
  | _, st => st

/-- Step 3 for one bin: the new parameters and the state change (R106, R140). -/
def State.applyBin (s : State) (b : BinId) : State :=
  let p := s.binPart b
  let r := s.bin b
  s.setBin b { r with state := r.stateAtApply p.service, material := p.material, capacity := p.capacity, ratio := p.ratio,
                      warningMark := p.warningMark }

/-- The PLAN-APPLIED response (R139 step 7). -/
def State.appliedResponse (s : State) : Response :=
  .planApplied (laneIds.map fun k => (s.lane k).appliedByte) (binIds.map fun b => (s.bin b).stateByte) s.merge.flags

/-- Steps 1 to 6 of a successful apply (R139). -/
def State.applyPlan (s : State) : State :=
  let s := { s with plans := { s.plans with active := s.plans.staged } }
  let s := laneIds.foldl State.applyLane s
  let s := binIds.foldl State.applyBin s
  let s := binIds.foldl State.warnTest s
  let s := s.evalAtLimit
  let s := s.setMergeHold s.holdAtApply
  s.reformHeld.mergePass

/-- PLAN-APPLY (R138, R139). -/
def takePlanApply (s : State) : State :=
  match firstFailing s.planChecks with
  | some n => s.respondOffice (.refuse ReqKind.planApply.code .planInvalid n)
  | none => s.applyPlan.respondOffice s.applyPlan.appliedResponse

/-- The meaning of PLAN-APPLY (R139). -/
def execPlanApply (s : State) : Host.Outcome State Fault Refusal :=
  .next (s.requestCompletes .office .planApply 0 takePlanApply)

end Sys2Proof.Machine
end

