-- ==== Sys2Proof/Machine/LinkEvents.lean ====
section
/-! DEFINITION. The events of a link below its requests (Chapter 10): a byte received, the probe, a completed frame read
byte by byte, and the end of a transmission. -/

namespace Sys2Proof.Machine

/-! ### A completed frame by its bytes -/

/-- The container report in a ten-byte body (R169; the key bytes: log entry 22). -/
def rawReport (body : List Byte) : RawReport :=
  { keyPresent := body.getD 0 0, key := keyOf ((body.drop 1).take 6),
    weight := BitVec.ofNat 16 (beNat ((body.drop 7).take 2)), shapeOk := body.getD 9 0 }

/-- The part fields of a PLAN-STAGE body of 14, 6 or 8 bytes, after the selector (R171). -/
def rawPart (body : List Byte) : RawPart :=
  let n (i w : Nat) : Nat := beNat ((body.drop i).take w)
  if body.length = 14 then
    .globalPart (BitVec.ofNat 16 (n 1 2)) (body.getD 3 0) (body.getD 4 0) (body.getD 5 0) (BitVec.ofNat 16 (n 6 2))
      (BitVec.ofNat 24 (n 8 3)) (BitVec.ofNat 16 (n 11 2)) (body.getD 13 0)
  else if body.length = 6 then
    .lanePart (body.getD 1 0) (BitVec.ofNat 16 (n 2 2)) (body.getD 4 0) (body.getD 5 0)
  else
    .binPart (body.getD 1 0) (body.getD 2 0) (BitVec.ofNat 16 (n 3 2)) (body.getD 5 0) (BitVec.ofNat 16 (n 6 2))

/-- The lane that owns a link; a checkout or office link has none, and 0 stands in (never reached: R156 test 2). -/
def laneOf : Link → LaneId
  | .lane k => k
  | .checkout => 0
  | .office => 0

/-- The owner's part of a request whose body is given as bytes of an allowed length (R157, R169 to R171; the
key and mask bytes of RECOG-WRITE: log entry 22). -/
def takeBody (l : Link) (k : ReqKind) (body : List Byte) (s : State) : State :=
  let byte (i : Nat) : Byte := body.getD i 0
  let key (i : Nat) : ArticleKey := keyOf ((body.drop i).take 6)
  match k with
  | .openSession => takeOpen (laneOf l) s
  | .container => takeContainer (laneOf l) (rawReport body) s
  | .endSession => takeEnd (laneOf l) s
  | .cancel => takeCancel (laneOf l) s
  | .laneQuery => takeLaneQuery (laneOf l) s
  | .claim => takeClaim (byte 0) (body.drop 1) s
  | .redeem => takeRedeem (byte 0) (body.drop 1) s
  | .unclaim => takeUnclaim (byte 0) (body.drop 1) s
  | .cornerStatus => takeCornerStatus s
  | .beltEnable => s.setBeltEnable true
  | .beltStop => s.setBeltEnable false
  | .jamClear => takeJamClear s
  | .recogWrite => takeRecogWrite (byte 0) (byte 1) (key 2) (key 8) (byte 14) s
  | .recogRead => takeRecogRead (byte 0) s
  | .tariffBegin => takeTariffBegin (byte 0) s
  | .tariffData => takeTariffData body s
  | .tariffRead => takeTariffRead (byte 0) s
  | .binRelease => takeBinRelease (byte 0) s
  | .binReturn => takeBinReturn (byte 0) s
  | .binRead => takeBinRead (byte 0) s
  | .rejectClear => takeRejectClear s
  | .voucherRead => takeVoucherRead (byte 0) s
  | .voucherVoid => takeVoucherVoid (byte 0) (BitVec.ofNat 16 (beNat ((body.drop 1).take 2))) s
  | .planStage => takePlanStage (byte 0) (rawPart body) s
  | .planRead => takePlanRead (byte 0) (byte 1) s
  | .planApply => takePlanApply s
  | .totalsRead => takeTotalsRead s
  | .periodClose => takePeriodClose s

/-- Tests 1 to 4 of R156 on a completed frame by its LEN, KIND, body and CHECK bytes, and the hand-over (R157). -/
def State.testFrame (s : State) (l : Link) (len kind : Byte) (body : List Byte) (check : Byte) : State :=
  if len + kind + body.sum + check ≠ 0 then s.refuse l kind .frame
  else
    match kindOf l kind with
    | none => s.refuse l kind .kind
    | some k => s.testRequest l k body.length (takeBody l k body)

/-- A frame completes, given by its bytes (R155, R156, R159). -/
def State.bytesComplete (s : State) (l : Link) (len kind : Byte) (body : List Byte) (check : Byte) : State :=
  s.frameCompletes l fun s => s.testFrame l len kind body check

/-- The meaning of FRAME_REFUSED (R156): a completed frame by its kind, body and check byte.  A frame that passes the tests
is handed on as any other (R157; DESIGN CHOICE, log entry 11). -/
def execFrameRefused (l : Link) (kind : Byte) (body : List Byte) (check : Byte) (s : State) :
    Host.Outcome State Fault Refusal :=
  .next (s.bytesComplete l (BitVec.ofNat 8 (body.length + 1)) kind body check)

/-! ### The probe (R160) -/

/-- The status byte of a link, from the state as it stands (R161, R172). -/
def State.statusByte (s : State) (l : Link) : Byte :=
  match l with
  | .lane k => laneStatus (s.lane k) s.merge.held (s.port l)
  | .checkout => checkoutStatus (s.port l)
  | .office => officeStatus (s.port l)

/-- The four steps of a probe; it is ignored while a status byte is pending (R160). -/
def State.takeProbe (s : State) (l : Link) : State :=
  let p := s.port l
  if p.pendingStatus.isSome then s
  else
    let q := { p with notices := {}, power := p.power && s.inHoldUp, pendingStatus := some (s.statusByte l) }
    s.setPort l (if q.transmitter = .idle then q.beginNext else q)

/-! ### Bytes received (R155) -/

/-- A byte of a frame: the frame's bytes from LEN on so far, and the new byte (R155, state FRAME). -/
def State.frameByte (s : State) (l : Link) (bytes : List Byte) (b : Byte) : State :=
  match bytes with
  | [] =>
    if 1 ≤ b.toNat ∧ b.toNat ≤ 120 then s.setReceiver l (.frame [b] 0) else s.setReceiver l (.hunt 0)
  | [len] => s.setReceiver l (.frame [len, b] 0)
  | len :: kind :: body =>
    if body.length + 1 = len.toNat then s.bytesComplete l len kind body b
    else s.setReceiver l (.frame (bytes ++ [b]) 0)

/-- The receiver takes one byte (R155).  A byte without its stop bit is discarded; in FRAME it sends the receiver to HUNT
with the gap timer running on (log entry 7). -/
def State.receive (s : State) (l : Link) (b : Byte) (stopBit : Bool) : State :=
  match (s.port l).receiver, stopBit with
  | .idle, true =>
    if b = 0xA5 then s.setReceiver l (.frame [] 0) else if b = 0x3F then s.takeProbe l else s
  | .frame bytes _, true => s.frameByte l bytes b
  | .hunt _, true => if b = 0xA5 then s.setReceiver l (.frame [] 0) else s.setReceiver l (.hunt 0)
  | .idle, false => s
  | .frame _ g, false => s.setReceiver l (.hunt g)
  | .hunt _, false => s

/-- The meaning of BYTE_RECEIVED (R155).  A byte that completes a frame or is a probe has the effect that R155 gives it. -/
def execByteReceived (l : Link) (b : Byte) (stopBit : Bool) (s : State) : Host.Outcome State Fault Refusal :=
  .next (s.whenUp fun s => s.receive l b stopBit)

/-- The meaning of PROBE (R160): the byte 3Fh is received; outside IDLE it is data or discarded (R155). -/
def execProbe (l : Link) (s : State) : Host.Outcome State Fault Refusal :=
  .next (s.whenUp fun s => s.receive l 0x3F true)

/-! ### The end of a transmission (R159, R160; log entry 19) -/

/-- The last byte of the frame being sent has been sent: the frame leaves the queue (R159). -/
def LinkPort.frameSent (p : LinkPort) : LinkPort :=
  if p.transmitter = .frame then { p with outQueue := p.outQueue.tail }.beginNext else p

/-- The meaning of FRAME_TRANSMITTED (R159). -/
def execFrameTransmitted (l : Link) (s : State) : Host.Outcome State Fault Refusal :=
  .next (s.whenUp fun s => s.setPort l (s.port l).frameSent)

/-- A status byte has been sent, and the transmitter moves on (R160). -/
def LinkPort.statusSent (p : LinkPort) : LinkPort :=
  match p.transmitter with
  | .status _ => p.beginNext
  | _ => p

/-- The meaning of STATUS_BYTE_TRANSMITTED (R160). -/
def execStatusByteTransmitted (l : Link) (s : State) : Host.Outcome State Fault Refusal :=
  .next (s.whenUp fun s => s.setPort l (s.port l).statusSent)

end Sys2Proof.Machine
end

