-- ==== Sys2Proof/Machine/Supply.lean ====
section
/-! DEFINITION. The Supply Monitor (Chapter 9): HOLD-UP and its end, the backup-cell flags, RESET, the loss of main
supply, and the cold and warm start. -/

namespace Sys2Proof.Machine

/-! ### HOLD-UP -/

/-- Replace the supply state. -/
def State.setSupplyState (s : State) (st : SupplyState) : State := { s with supply := { s.supply with state := st } }

/-- What entry to HOLD-UP does to one lane (R53). -/
def State.holdUpLane (s : State) (k : LaneId) : State :=
  match (s.lane k).state with
  | .active => (if (s.claimOf k).isSome then s.refuseClaim k .power else s).supplyClose k
  | .settling => s.supplyClose k
  | .ready => (s.setLane k { s.lane k with state := .parked, parkPending := false }).raise (.lane k) .state
  | .parked => s

/-- A plan with every lane mode PARKED (R143, R144). -/
def Plan.parkModes (p : Plan) : Plan :=
  { p with lanes := mapAll (fun l : LanePart => { l with mode := .parked }) p.lanes }

/-- Set the power flag of a link (R163). -/
def State.setPower (s : State) (l : Link) : State := s.setPort l { s.port l with power := true }

/-- Entry to HOLD-UP, its four steps in order (R150). -/
def State.enterHoldUp (s : State) : State :=
  let s := ((s.setSupplyState .holdUp).reevaluateRunning).reformHeld
  let s := laneIds.foldl State.holdUpLane s
  let s := { s with plans := { s.plans with active := s.plans.active.parkModes } }
  (links.foldl State.setPower s).raise .office .supply

/-- An assertion of SUPWARN: nothing in HOLD-UP (R150). -/
def State.warn (s : State) : State := if s.inHoldUp then s else s.enterHoldUp

/-- The meaning of SUPWARN_ASSERTED (R150). -/
def execSupwarnAsserted (s : State) : Host.Outcome State Fault Refusal := .next (s.whenUp State.warn)

/-- A withdrawal of SUPWARN: the return to NORMAL, or nothing in NORMAL (R152). -/
def State.endHoldUp (s : State) : State :=
  if s.inHoldUp then
    ((((s.setSupplyState .normal).reevaluateRunning).reformHeld).raise .office .supply).passIfReleased s
  else s

/-- The meaning of SUPWARN_WITHDRAWN (R152). -/
def execSupwarnWithdrawn (s : State) : Host.Outcome State Fault Refusal := .next (s.whenUp State.endHoldUp)

/-- The comparators change: each flag follows, and a change to yes sets the SUPPLY notice (R153). -/
def State.setBackupFlags (s : State) (low lost : Bool) : State :=
  let rises := (low && !s.supply.backupLow) || (lost && !s.supply.backupLost)
  let s := { s with supply := { s.supply with backupLow := low, backupLost := lost } }
  if rises then s.raise .office .supply else s

/-- The meaning of BACKUP_FLAG_CHANGE (R153). -/
def execBackupFlagChange (low lost : Bool) (s : State) : Host.Outcome State Fault Refusal :=
  .next (s.whenUp fun s => s.setBackupFlags low lost)

/-! ### RESET and the loss of main supply -/

/-- The retained fields of a lane with the volatile ones at their start values (Table 3-3, R37). -/
def Lane.retained (l : Lane) : Lane :=
  { Lane.cold with slot := l.slot, firmCredit := l.firmCredit, firmCount := l.firmCount,
                   transitCredit := l.transitCredit, transitCount := l.transitCount }

/-- The volatile domain is lost and the outputs are idle; the retained domain keeps what it held (R145, R146;
DEDUCED, log entry 13). -/
def State.loseVolatile (s : State) : State :=
  { s with
    ports := Vector.replicate 6 .blank
    belt := .started false false
    chute := 0
    recog := { s.recog with cursor := none }
    lanes := mapAll Lane.retained s.lanes
    merge := { claims := [], mergeHold := false, held := true }
    transit := []
    plans := { staged := s.plans.active.parkModes, active := s.plans.active.parkModes }
    supply := { s.supply with state := .normal } }

/-- Put the part into a phase. -/
def State.setPhase (s : State) (p : Phase) : State := { s with supply := { s.supply with phase := p } }

/-- RESET is asserted; with main supply lost, the next start still begins by power-on (R146). -/
def State.assertReset (s : State) : State :=
  s.loseVolatile.setPhase (if s.supply.phase = .supplyLost then .supplyLost else .inReset)

/-- The meaning of RESET_ASSERTED (R146). -/
def execResetAsserted (s : State) : Host.Outcome State Fault Refusal := .next s.assertReset

/-- Main supply is lost; the marker clears if the retained domain's supply fails too (R146; log entry 14). -/
def State.loseSupply (s : State) (backupFails : Bool) : State :=
  let s := s.loseVolatile.setPhase .supplyLost
  { s with supply := { s.supply with marker := s.supply.marker && !backupFails } }

/-- The meaning of MAIN_SUPPLY_LOSS (R146). -/
def execMainSupplyLoss (backupFails : Bool) (s : State) : Host.Outcome State Fault Refusal :=
  .next (s.loseSupply backupFails)

/-! ### Starts -/

/-- The voucher values of a recovered session (R148 step 1). -/
def Lane.recoveredVoucher (l : Lane) (k : LaneId) : Voucher :=
  { serial := 0, amount := l.firmCredit + l.transitCredit, count := l.firmCount + l.transitCount,
    unconfirmed := l.transitCount, lane := k, powerClosed := false, recovered := true }

/-- The recovery of one lane at a warm start (R148). -/
def State.recoverLane (s : State) (k : LaneId) : State :=
  let l := s.lane k
  match l.slot with
  | some i =>
    let s := { s with
      table := s.table.settleSlot i (l.recoveredVoucher k)
      supply := { s.supply with recovered := s.supply.recovered + 1 } }
    s.setLane k .cold
  | none => s.setLane k .cold

/-- A CLAIMED voucher enters ISSUED at a warm start (R134). -/
def VoucherSlot.afterStart : VoucherSlot → VoucherSlot
  | .claimed v _ _ => .issued v
  | other => other

/-- A bin at a warm start: no reservation, and a drain completes into its target (R115). -/
def Bin.afterStart (b : Bin) : Bin :=
  { b with reserved := 0, state := match b.state with
                                   | .draining t => t.state
                                   | other => other }

/-- The first `n` lane recoveries of a warm start (R148). -/
def State.recoverLanes (s : State) (n : Nat) : State :=
  (laneIds.take n).foldl State.recoverLane { s with supply := { s.supply with recovered := 0 } }

/-- The values of every link at a start (R164). -/
def startedPorts : Vector LinkPort 6 :=
  #v[.started false, .started false, .started false, .started false, .started false, .started true]

/-- What a start reads and sets last: Belt Control's start values, the link values, the backup-cell flags, the cause and
the retention marker (R17, R146, R153, R164). -/
def State.finishStart (s : State) (cause : ResetCause) (lines : StartLines) : State :=
  { s with
    ports := startedPorts
    belt := .started lines.eyeBlocked lines.estopPressed
    supply := { s.supply with phase := .running, state := .normal, cause := cause, backupLow := lines.backupLow,
                              backupLost := lines.backupLost, marker := true } }

/-- The work of a warm start on the retained domain (R148, R149). -/
def State.warmWork (s : State) : State :=
  let s := s.loseVolatile.recoverLanes 4
  State.evalAtLimit
    { s with bins := mapAll Bin.afterStart s.bins
             table := { s.table with slots := mapAll VoucherSlot.afterStart s.table.slots } }

/-- A cold start's retained and volatile state: the values after reset (R147). -/
def State.coldWork (s : State) : State := { State.reset with choices := s.choices, pending := s.pending }

/-- What a start began by: a power-on during which RESET was held counts as a power-on (R146). -/
def State.startOrigin (s : State) (origin : StartOrigin) : StartOrigin :=
  if s.supply.phase = .supplyLost then .powerOn else origin

/-- The reset cause of a warm start (R146). -/
def warmCause : StartOrigin → ResetCause
  | .powerOn => .supply
  | .resetRelease => .pin

/-- A complete start; an asserted SUPWARN is taken as soon as it is complete (R146 to R149, R152; log
entries 12 and 15). -/
def State.fullStart (s : State) (origin : StartOrigin) (lines : StartLines) : State :=
  let t :=
    if s.supply.marker then s.warmWork.finishStart (warmCause (s.startOrigin origin)) lines
    else s.coldWork.finishStart .cold lines
  if lines.supwarn then t.enterHoldUp else t

/-- A start that main supply leaves before it is complete: a warm start has recovered its first lanes, and the marker is as
the start found it (R146; log entry 12). -/
def State.cutStart (s : State) (n : Nat) : State :=
  let t := if s.supply.marker then s.loseVolatile.recoverLanes n else s.loseVolatile
  t.setPhase .supplyLost

/-- The meaning of START (R146). -/
def execStart (origin : StartOrigin) (lines : StartLines) (cut : Option Nat) (s : State) :
    Host.Outcome State Fault Refusal :=
  .next (match cut with
    | none => s.fullStart origin lines
    | some n => s.cutStart n)

end Sys2Proof.Machine
end

