-- ==== Sys2Proof/Machine/Timers.lean ====
section
/-! DEFINITION. The timers: the four expiry commands, and the 10 ms timebase step that `step` takes on an empty queue
(R2). -/

namespace Sys2Proof.Machine

/-! ### What an expiry does -/

/-- The settle timer of a lane expires: the limit close (R51). -/
def State.expireSettle (s : State) (k : LaneId) : State :=
  if (s.lane k).state = .settling then s.limitClose k else s

/-- The claim-wait timer of a lane's claim expires: the claim is refused NO-SLOT, and no pass follows (R61). -/
def State.expireClaimWait (s : State) (k : LaneId) : State :=
  if (s.claimOf k).isSome then s.refuseClaim k .noSlot else s

/-- A claim lapse timer expires: the voucher enters ISSUED and the LAPSE notice is set (R126). -/
def State.expireLapse (s : State) (i : SlotId) : State :=
  match s.table.slot i with
  | .claimed v _ _ => (s.setTable (s.table.setSlot i (.issued v))).raise .checkout .lapse
  | _ => s

/-- The gap timer of a receiver expires: a partial frame is discarded and the receiver returns to IDLE (R155). -/
def State.expireGap (s : State) (l : Link) : State := s.setReceiver l .idle

/-! ### When a timer expires (R2)

A timer expires once a timebase step has brought it to its limit or beyond. -/

/-- Whether the settle timer of a lane has reached its limit (R48). -/
def Lane.settleDue (l : Lane) : Bool :=
  match l.settle with
  | some t => t.limit ≤ t.elapsed
  | none => false

/-- Whether the claim-wait timer of a lane's claim has reached its limit (R61). -/
def State.claimWaitDue (s : State) (k : LaneId) : Bool :=
  match s.claimOf k with
  | some c => c.limit ≤ c.elapsed
  | none => false

/-- Whether a claim lapse timer has reached its limit (R126). -/
def VoucherSlot.lapseDue : VoucherSlot → Bool
  | .free => false
  | .issued _ => false
  | .claimed _ _ e => Config.lapseLimit ≤ e

/-- Whether a gap timer has reached its limit (R155). -/
def Receiver.gapDue : Receiver → Bool
  | .idle => false
  | .frame _ g => Config.gapLimit ≤ g
  | .hunt g => Config.gapLimit ≤ g

/-! ### The expiry commands

The timebase step that brings a timer to its limit puts the timer's expiry command into the queue; sent at any other moment,
an expiry command finds its timer short of its limit and changes nothing (DESIGN CHOICE, log entry 6). -/

/-- The meaning of SETTLE_TIMER_EXPIRY (R51). -/
def execSettleTimerExpiry (k : LaneId) (s : State) : Host.Outcome State Fault Refusal :=
  .next (s.whenUp fun s => if (s.lane k).settleDue then s.expireSettle k else s)

/-- The meaning of CLAIM_WAIT_EXPIRY (R61). -/
def execClaimWaitExpiry (k : LaneId) (s : State) : Host.Outcome State Fault Refusal :=
  .next (s.whenUp fun s => if s.claimWaitDue k then s.expireClaimWait k else s)

/-- The meaning of CLAIM_LAPSE (R126). -/
def execClaimLapse (i : SlotId) (s : State) : Host.Outcome State Fault Refusal :=
  .next (s.whenUp fun s => if (s.table.slot i).lapseDue then s.expireLapse i else s)

/-- The meaning of GAP_TIMER_EXPIRY (R155). -/
def execGapTimerExpiry (l : Link) (s : State) : Host.Outcome State Fault Refusal :=
  .next (s.whenUp fun s => if (s.port l).receiver.gapDue then s.expireGap l else s)

/-! ### The timebase step -/

/-- A settle timer one step later. -/
def SettleTimer.tick (t : SettleTimer) : SettleTimer := { t with elapsed := t.elapsed + Config.timebaseStep }

/-- A lane one step later: only its settle timer moves. -/
def Lane.tick (l : Lane) : Lane := { l with settle := l.settle.map SettleTimer.tick }

/-- A claim one step later. -/
def Claim.tick (c : Claim) : Claim := { c with elapsed := c.elapsed + Config.timebaseStep }

/-- A voucher slot one step later: only a claim lapse timer moves. -/
def VoucherSlot.tick : VoucherSlot → VoucherSlot
  | .claimed v c e => .claimed v c (e + Config.timebaseStep)
  | other => other

/-- A receiver one step later: only a gap timer moves. -/
def Receiver.tick : Receiver → Receiver
  | .idle => .idle
  | .frame bytes g => .frame bytes (g + Config.timebaseStep)
  | .hunt g => .hunt (g + Config.timebaseStep)

/-- A link one step later. -/
def LinkPort.tick (p : LinkPort) : LinkPort := { p with receiver := p.receiver.tick }

/-- Every timer rises by 10 ms (R2). -/
def State.advanceTimers (s : State) : State :=
  { s with
    ports := mapAll LinkPort.tick s.ports
    lanes := mapAll Lane.tick s.lanes
    merge := { s.merge with claims := s.merge.claims.map Claim.tick }
    table := { s.table with slots := mapAll VoucherSlot.tick s.table.slots } }

/-- The expiry commands of the timers that have reached their limits (R2). -/
def State.dueExpiries (s : State) : List Instr :=
  ((laneIds.filter fun k => (s.lane k).settleDue).map Instr.settleTimerExpiry) ++
    ((laneIds.filter s.claimWaitDue).map Instr.claimWaitExpiry) ++
    (((List.finRange 128).filter fun i => (s.table.slot i).lapseDue).map Instr.claimLapse) ++
    ((links.filter fun l => (s.port l).receiver.gapDue).map Instr.gapTimerExpiry)

/-- Put expiry commands into the queue in an order that R2 leaves free: while more than one is left, the next is drawn by
the free choice (log entry 3); `fuel` is at least the number of commands. -/
def State.queueExpiries (s : State) : (fuel : Nat) → List Instr → State
  | 0, _ => s
  | _ + 1, [] => s
  | _ + 1, [c] => { s with pending := s.pending ++ [c] }
  | fuel + 1, c :: rest =>
    let i := Config.freeChoice s.choices % (rest.length + 1)
    let s := { s with choices := s.choices + 1, pending := s.pending ++ [(c :: rest)[i]?.getD c] }
    State.queueExpiries s fuel ((c :: rest).eraseIdx i)

/-- One timebase step: every timer rises by 10 ms, and those that have reached their limits expire next, each by its own
command at the front of the queue (R2; DESIGN CHOICE, log entries 2 and 6). -/
def State.timebaseStep (s : State) : State :=
  s.whenUp fun s =>
    let s := s.advanceTimers
    s.queueExpiries s.dueExpiries.length s.dueExpiries

end Sys2Proof.Machine
end

