-- ==== Sys2Proof/Machine/Dispatch.lean ====
section
/-! DEFINITION. The dispatch of a command to its meaning, one arm per row of spec/opcode_table.json in the table's order. -/

namespace Sys2Proof.Machine

def exec (i : Instr) (s : State) : Host.Outcome State Fault Refusal :=
  match i with
  -- field lines and timers
  | .encoderPulse order => Sys2Proof.Machine.execEncoderPulse order s
  | .leadingEdge pulse => Sys2Proof.Machine.execLeadingEdge pulse s
  | .trailingEdge => Sys2Proof.Machine.execTrailingEdge s
  | .estopAsserted => Sys2Proof.Machine.execEstopAsserted s
  | .estopReleased => Sys2Proof.Machine.execEstopReleased s
  | .supwarnAsserted => Sys2Proof.Machine.execSupwarnAsserted s
  | .supwarnWithdrawn => Sys2Proof.Machine.execSupwarnWithdrawn s
  | .backupFlagChange low lost => Sys2Proof.Machine.execBackupFlagChange low lost s
  | .resetAsserted => Sys2Proof.Machine.execResetAsserted s
  | .mainSupplyLoss backupFails => Sys2Proof.Machine.execMainSupplyLoss backupFails s
  | .start origin lines cut => Sys2Proof.Machine.execStart origin lines cut s
  | .settleTimerExpiry lane => Sys2Proof.Machine.execSettleTimerExpiry lane s
  | .claimWaitExpiry lane => Sys2Proof.Machine.execClaimWaitExpiry lane s
  | .claimLapse slot => Sys2Proof.Machine.execClaimLapse slot s
  | .gapTimerExpiry link => Sys2Proof.Machine.execGapTimerExpiry link s
  -- links
  | .byteReceived link byte stopBit => Sys2Proof.Machine.execByteReceived link byte stopBit s
  | .probe link => Sys2Proof.Machine.execProbe link s
  | .frameRefused link kind body check => Sys2Proof.Machine.execFrameRefused link kind body check s
  | .frameTransmitted link => Sys2Proof.Machine.execFrameTransmitted link s
  | .statusByteTransmitted link => Sys2Proof.Machine.execStatusByteTransmitted link s
  -- lane requests
  | .openSession lane => Sys2Proof.Machine.execOpen lane s
  | .container lane report => Sys2Proof.Machine.execContainer lane report s
  | .endSession lane => Sys2Proof.Machine.execEnd lane s
  | .cancel lane => Sys2Proof.Machine.execCancel lane s
  | .laneQuery lane => Sys2Proof.Machine.execLaneQuery lane s
  -- checkout requests
  | .claim checkout code => Sys2Proof.Machine.execClaim checkout code s
  | .redeem checkout code => Sys2Proof.Machine.execRedeem checkout code s
  | .unclaim checkout code => Sys2Proof.Machine.execUnclaim checkout code s
  -- office requests
  | .cornerStatus => Sys2Proof.Machine.execCornerStatus s
  | .beltEnable => Sys2Proof.Machine.execBeltEnable s
  | .beltStop => Sys2Proof.Machine.execBeltStop s
  | .jamClear => Sys2Proof.Machine.execJamClear s
  | .recogWrite index enable key mask cls => Sys2Proof.Machine.execRecogWrite index enable key mask cls s
  | .recogRead index => Sys2Proof.Machine.execRecogRead index s
  | .tariffBegin cls => Sys2Proof.Machine.execTariffBegin cls s
  | .tariffData bytes => Sys2Proof.Machine.execTariffData bytes s
  | .tariffRead cls => Sys2Proof.Machine.execTariffRead cls s
  | .binRelease chute => Sys2Proof.Machine.execBinRelease chute s
  | .binReturn chute => Sys2Proof.Machine.execBinReturn chute s
  | .binRead chute => Sys2Proof.Machine.execBinRead chute s
  | .rejectClear => Sys2Proof.Machine.execRejectClear s
  | .voucherRead slot => Sys2Proof.Machine.execVoucherRead slot s
  | .voucherVoid slot serial => Sys2Proof.Machine.execVoucherVoid slot serial s
  | .totalsRead => Sys2Proof.Machine.execTotalsRead s
  | .periodClose => Sys2Proof.Machine.execPeriodClose s
  | .planStage selector fields => Sys2Proof.Machine.execPlanStage selector fields s
  | .planRead plan part => Sys2Proof.Machine.execPlanRead plan part s
  | .planApply => Sys2Proof.Machine.execPlanApply s

end Sys2Proof.Machine
end

