-- ==== Sys2Proof/Safety.lean ====
section
/-! DEFINITION. What the manual promises of the whole machine, as predicates on a state: the laws that every step keeps.
Each definition cites the rule that promises it.  Where a law speaks of volatile state, it is stated of a part that is up:
while RESET is asserted or main supply is lost the volatile domain is gone (R145, R146). -/

namespace Sys2Proof.Machine

/-- A lane state with a session (Table 3-1). -/
def LaneState.inSession (st : LaneState) : Bool := st == .active || st == .settling

/-- The kept indications are what their causes make them: running (R7), held (R63) and at-limit (R112). -/
def State.FlagsAgree (s : State) : Prop :=
  s.belt.running = s.runConditions ∧ s.merge.held = s.heldCauses ∧
    s.reject.atLimit = decide (s.corner.rejectLimit ≤ s.reject.count)

/-- A voucher slot that holds a voucher (R116). -/
def VoucherSlot.used : VoucherSlot → Bool
  | .free => false
  | .issued _ => true
  | .claimed _ _ _ => true

/-- The amount that a slot owes (R131). -/
def VoucherSlot.amount : VoucherSlot → Nat
  | .free => 0
  | .issued v => v.amount
  | .claimed v _ _ => v.amount

/-- Every slot is in exactly one of the three groups of R117: on the stack (once), held by one lane, or with a voucher;
and while the part is up exactly the lanes in ACTIVE or SETTLING hold one (R36). -/
def State.SlotsConserved (s : State) : Prop :=
  s.table.stack.Nodup ∧
  (∀ i : SlotId, i ∈ s.table.stack →
    (s.table.slot i).used = false ∧ ∀ k : LaneId, (s.lane k).slot ≠ some i) ∧
  (∀ (i : SlotId) (k : LaneId), (s.lane k).slot = some i →
    (s.table.slot i).used = false ∧ ∀ j : LaneId, (s.lane j).slot = some i → j = k) ∧
  (∀ i : SlotId, i ∈ s.table.stack ∨ (∃ k : LaneId, (s.lane k).slot = some i) ∨ (s.table.slot i).used = true) ∧
  (s.isUp = true → ∀ k : LaneId, (s.lane k).slot.isSome = (s.lane k).state.inSession)

/-- The sum of the three groups of R117. -/
def State.slotGroups (s : State) : Nat :=
  s.table.stack.length + (laneIds.countP fun k => (s.lane k).slot.isSome) +
    s.table.slots.toList.countP VoucherSlot.used

/-- The outstanding amount is the sum of the vouchers that are owed (R131). -/
def State.OutstandingAgrees (s : State) : Prop :=
  s.table.outstanding = (s.table.slots.toList.map VoucherSlot.amount).sum

/-- The volume that the transit queue has promised to a bin (R100). -/
def State.promised (s : State) (b : BinId) : Nat :=
  ((s.transit.filter fun r => r.bin == b).map TransitRecord.volume).sum

/-- The laws of R100, and that a DRAINING bin still expects a record (Table 6-2). -/
def State.BinsKeepLaws (s : State) : Prop :=
  ∀ b : BinId, (s.bin b).sum ≤ (s.bin b).capacity ∧
    (s.isUp = true → (s.bin b).reserved = s.promised b ∧
      ((s.bin b).state = .out ∨ (s.bin b).state = .released → (s.bin b).reserved = 0) ∧
      (∀ t : DrainTarget, (s.bin b).state = .draining t → 0 < (s.bin b).reserved))

/-- The records attached to a lane's session (R52). -/
def State.attachedTo (s : State) (k : LaneId) : List TransitRecord :=
  s.transit.filter fun r => r.attached && r.lane == k

/-- The in-transit figures of a lane are the number and the deposits of its attached records (R52), and a lane without a
session has its figures at 0 (Table 3-3). -/
def State.TransitFiguresAgree (s : State) : Prop :=
  s.isUp = true → ∀ k : LaneId,
    (s.lane k).transitCount = (s.attachedTo k).length ∧
    (s.lane k).transitCredit = ((s.attachedTo k).map TransitRecord.deposit).sum ∧
    ((s.lane k).state.inSession = false → (s.lane k).firmCredit = 0 ∧ (s.lane k).firmCount = 0 ∧
      (s.lane k).transitCount = 0)

/-- The waiting-claim set holds at most one claim a lane, each of an ACTIVE lane whose CONTAINER is in flight (R59); a
CONTAINER is in flight only while its claim exists, and END exactly while the lane is SETTLING (R157). -/
def State.ClaimsInFlight (s : State) : Prop :=
  (s.merge.claims.map Claim.lane).Nodup ∧
  (∀ k : LaneId,
    ((s.port (.lane k)).inFlight = some .container ↔ (s.claimOf k).isSome = true) ∧
    ((s.claimOf k).isSome = true → (s.lane k).state = .active) ∧
    ((s.port (.lane k)).inFlight = some .endSession ↔ (s.lane k).state = .settling) ∧
    ((s.port (.lane k)).inFlight = none ∨ (s.port (.lane k)).inFlight = some .container ∨
      (s.port (.lane k)).inFlight = some .endSession)) ∧
  (s.port .checkout).inFlight = none ∧ (s.port .office).inFlight = none

/-- Park-pending is set only in ACTIVE and SETTLING (R54, R172). -/
def State.ParkPendingInSession (s : State) : Prop :=
  ∀ k : LaneId, (s.lane k).parkPending = true → (s.lane k).state.inSession = true

/-- The settle timer runs exactly in SETTLING (R48). -/
def State.SettleTimersRun (s : State) : Prop :=
  ∀ k : LaneId, (s.lane k).settle.isSome = ((s.lane k).state == .settling)

/-- An output queue holds at most four frames, and leaves room for the response of a request in flight (R159). -/
def State.QueuesBounded (s : State) : Prop :=
  ∀ l : Link, (s.port l).outQueue.length ≤ 4 ∧ ((s.port l).inFlight.isSome = true → (s.port l).outQueue.length ≤ 3)

/-- The active plan passes the checks of Table 8-4 that read a plan alone: ranges, tolerance and marks (R138). -/
def State.PlanInRange (s : State) : Prop :=
  s.plans.active.inRange = true ∧ 2 * s.corner.tolerance < s.corner.gap ∧ s.corner.releaseMark < s.corner.holdMark

/-- The signed distance from the current count to a record's due (R78). -/
def State.ahead (s : State) (r : TransitRecord) : Int := signedDistance s.belt.count r.due

/-- The guarantees of R78 and R80: the queue is in due order, any two dues are at least the gap apart, every due lies
between minus the tolerance and 6,255 pulses ahead, and at most 48 records are held. -/
def State.BeltSpaced (s : State) : Prop :=
  s.transit.Pairwise (fun q r => s.ahead q < s.ahead r ∧ s.corner.gap ≤ (signedDistance q.due r.due).natAbs) ∧
  (∀ r ∈ s.transit, -(s.corner.tolerance : Int) ≤ s.ahead r ∧ s.ahead r ≤ 6255) ∧
  s.transit.length ≤ Config.queueCapacity

/-- Merge-hold is set whenever the occupancy is at or above the hold mark, and clear at or below the release mark (R64,
R65). -/
def State.MergeHoldMarked (s : State) : Prop :=
  (s.merge.mergeHold = false → s.occupancy < s.corner.holdMark) ∧
    (s.merge.mergeHold = true → s.corner.releaseMark < s.occupancy)

/-- The credit limits hold at every moment of a session (R38). -/
def State.CreditLimited (s : State) : Prop :=
  ∀ k : LaneId, (s.lane k).firmCredit + s.provisionalCredit k ≤ Config.voucherCeiling ∧
    (s.lane k).firmCount + s.provisionalCount k ≤ Config.containerLimit

end Sys2Proof.Machine
end

