-- ==== Sys2Proof/WellFormed.lean ====
section
/-! DEFINITION. What a command must satisfy to be one that the world or a master can send: the bodies of variable
length lie within the frame of R154 and R156, and a start that is cut short is cut within its four lane recoveries.
Field values are not checked here: a field out of range is received and refused by its owner (R166).  A command that is not
well-formed still has a meaning (log entry 21). -/

namespace Sys2Proof

/-- Well-formedness of a command: a body of at most 119 bytes (R154), and a cut within the four lanes (R148). -/
def Instr.wellFormed : Instr → Bool
  | .start _ _ (some n) => n ≤ 4
  | .frameRefused _ _ body _ => body.length ≤ 119
  | .claim _ code => code.length ≤ 118
  | .redeem _ code => code.length ≤ 118
  | .unclaim _ code => code.length ≤ 118
  | .tariffData bytes => bytes.length ≤ 119
  | .start _ _ none => true
  | .encoderPulse _ => true
  | .leadingEdge _ => true
  | .trailingEdge => true
  | .estopAsserted => true
  | .estopReleased => true
  | .supwarnAsserted => true
  | .supwarnWithdrawn => true
  | .backupFlagChange _ _ => true
  | .resetAsserted => true
  | .mainSupplyLoss _ => true
  | .settleTimerExpiry _ => true
  | .claimWaitExpiry _ => true
  | .claimLapse _ => true
  | .gapTimerExpiry _ => true
  | .byteReceived _ _ _ => true
  | .probe _ => true
  | .frameTransmitted _ => true
  | .statusByteTransmitted _ => true
  | .openSession _ => true
  | .container _ _ => true
  | .endSession _ => true
  | .cancel _ => true
  | .laneQuery _ => true
  | .cornerStatus => true
  | .beltEnable => true
  | .beltStop => true
  | .jamClear => true
  | .recogWrite _ _ _ _ _ => true
  | .recogRead _ => true
  | .tariffBegin _ => true
  | .tariffRead _ => true
  | .binRelease _ => true
  | .binReturn _ => true
  | .binRead _ => true
  | .rejectClear => true
  | .voucherRead _ => true
  | .voucherVoid _ _ => true
  | .totalsRead => true
  | .periodClose => true
  | .planStage _ _ => true
  | .planRead _ _ => true
  | .planApply => true

end Sys2Proof
end

