-- ==== Sys2Proof/Safety/Observe.lean ====
section
/-! DEFINITION. The terms in which the obligations speak of a step: when a link takes a request, what a link shows after a
response has joined its queue, the request frames by their bytes, when a timer has
reached its limit, and what a close, a resolution at the gate and a pass do to lanes and bins. -/

namespace Sys2Proof.Machine

/-! ### Links -/

/-- Link `l` takes a request of kind `k` in NORMAL: the part is up, fewer than three frames wait (R159), the BUSY test
passes (R156) and the supply is not in HOLD-UP (R151). -/
def State.Takes (s : State) (l : Link) (k : ReqKind) : Prop :=
  s.isUp = true ∧ (s.port l).outQueue.length < 3 ∧ (s.port l).passesBusy k = true ∧ s.inHoldUp = false

/-- Link state `q` is link state `p` after a request frame was received and one frame joined the output queue: the frame
is last, an idle transmitter has begun to send, the request in flight is `flight` and the notices are `notices` (R155,
R157, R159, R160). -/
def LinkPort.Answered (p q : LinkPort) (frame : List Byte) (flight : Option ReqKind) (notices : Notices) : Prop :=
  q.receiver = .idle ∧ q.inFlight = flight ∧ q.outQueue = p.outQueue ++ [frame] ∧ q.notices = notices ∧
    q.power = p.power ∧
    (p.transmitter ≠ .idle → q.transmitter = p.transmitter ∧ q.pendingStatus = p.pendingStatus) ∧
    (p.transmitter = .idle → p.pendingStatus = none → q.transmitter = .frame ∧ q.pendingStatus = none) ∧
    (∀ b, p.transmitter = .idle → p.pendingStatus = some b → q.transmitter = .status b ∧ q.pendingStatus = none)

/-- Link state `q` is link state `p` after a response joined the queue by an event that is no frame of this link: as
`Answered`, with the receiver as it was (R159, R165). -/
def LinkPort.AnsweredByEvent (p q : LinkPort) (frame : List Byte) (notices : Notices) : Prop :=
  q.receiver = p.receiver ∧ LinkPort.Answered { p with receiver := .idle } { q with receiver := .idle } frame none notices

/-- Of all links only `l` differs, by the response `r` to a request frame received on it; nothing is newly in flight and
no notice changes. -/
def State.OnlyAnswers (s t : State) (l : Link) (r : Response) : Prop :=
  (s.port l).Answered (t.port l) r.frame (s.port l).inFlight (s.port l).notices ∧ ∀ l', l' ≠ l → t.port l' = s.port l'

/-- A REFUSE response (R168). -/
def refusal (k : ReqKind) (reason : Reason) : Response := .refuse k.code reason 0

/-- The Recognition Unit with the tariff load cursor closed (R32). -/
def Recognition.closed (r : Recognition) : Recognition := { r with cursor := none }

/-- A link state with its STATE notice set where `changed` holds (R56, R57). -/
def LinkPort.noticed (p : LinkPort) (changed : Bool) : LinkPort :=
  if changed then { p with notices := { p.notices with state := true } } else p

/-- Command `c`, sent in `s` as an office request, is refused with `reason` and changes nothing else but the cursor. -/
def State.OfficeRefuses (s : State) (c : Instr) (k : ReqKind) (reason : Reason) : Prop :=
  ∃ t, exec c s = .next t ∧ s.OnlyAnswers t .office (refusal k reason) ∧
    t = { s with ports := t.ports, recog := s.recog.closed }

/-- Command `c`, sent in `s` as an office request, is answered `r` and changes nothing else but the cursor. -/
def State.OfficeReports (s : State) (c : Instr) (r : Response) : Prop :=
  ∃ t, exec c s = .next t ∧ s.OnlyAnswers t .office r ∧ t = { s with ports := t.ports, recog := s.recog.closed }

/-- Command `c`, sent in `s` on link `l`, is refused with `reason` and changes nothing else. -/
def State.LinkRefuses (s : State) (c : Instr) (l : Link) (k : ReqKind) (reason : Reason) : Prop :=
  ∃ t, exec c s = .next t ∧ s.OnlyAnswers t l (refusal k reason) ∧ t = { s with ports := t.ports }

/-! ### Timers -/

/-- The timer of an expiry command exists and has reached its limit (R2, R48, R61, R126, R155); no other command has a
timer. -/
def State.AtLimit (s : State) : Instr → Prop
  | .settleTimerExpiry k => ∃ x, (s.lane k).settle = some x ∧ x.limit ≤ x.elapsed
  | .claimWaitExpiry k => ∃ c, s.claimOf k = some c ∧ c.limit ≤ c.elapsed
  | .claimLapse i => ∃ v c e, s.table.slot i = .claimed v c e ∧ 120000 ≤ e
  | .gapTimerExpiry l =>
    (∃ bytes g, (s.port l).receiver = .frame bytes g ∧ 20 ≤ g) ∨ ∃ g, (s.port l).receiver = .hunt g ∧ 20 ≤ g
  | _ => False

/-- State `t` is state `s` with every timer 10 ms higher, and nothing else changed but the model's own fields (R2). -/
def State.TimersRaised (s t : State) : Prop :=
  (∀ k, t.lane k =
    { s.lane k with settle := (s.lane k).settle.map fun x => { x with elapsed := x.elapsed + 10 } }) ∧
  t.merge = { s.merge with claims := s.merge.claims.map fun c => { c with elapsed := c.elapsed + 10 } } ∧
  (∀ i v, s.table.slot i = .issued v → t.table.slot i = .issued v) ∧
  (∀ i, s.table.slot i = .free → t.table.slot i = .free) ∧
  (∀ i v c e, s.table.slot i = .claimed v c e → t.table.slot i = .claimed v c (e + 10)) ∧
  (∀ l, (s.port l).receiver = .idle → t.port l = s.port l) ∧
  (∀ l bytes g, (s.port l).receiver = .frame bytes g →
    t.port l = { s.port l with receiver := .frame bytes (g + 10) }) ∧
  (∀ l g, (s.port l).receiver = .hunt g → t.port l = { s.port l with receiver := .hunt (g + 10) }) ∧
  t = { s with
    ports := t.ports, lanes := t.lanes, merge := t.merge, table := { s.table with slots := t.table.slots }
    choices := t.choices, pending := t.pending }

/-! ### Bytes and bits (R166) -/

/-- A number in `w` bytes, most significant byte first. -/
def msbFirst (w n : Nat) : List Byte := (List.range w).map fun i => BitVec.ofNat 8 (n / 256 ^ (w - 1 - i))

/-- The bits of a flag byte, bit 0 first; bits beyond the list are 0. -/
def HasBits (b : Byte) (bits : List Bool) : Prop := ∀ n, b.getLsbD n = bits.getD n false

/-- A yes / no field. -/
def yesOrNo (b : Bool) : Byte := if b then 1 else 0

/-- A response is sent as a frame of this kind byte and these body bytes, so many. -/
def Response.SentAs (r : Response) (kind : Byte) (length : Nat) (body : List Byte) : Prop :=
  r.code = kind ∧ r.body = body ∧ body.length = length

/-! ### Requests by their frames -/

/-- The part fields of a PLAN-STAGE as bytes (R171). -/
def rawPartBytes : RawPart → List Byte
  | .globalPart gap tolerance hold release claimWait settle jam reject =>
    msbFirst 2 gap.toNat ++ [tolerance, hold, release] ++ msbFirst 2 claimWait.toNat ++ msbFirst 3 settle.toNat ++
      msbFirst 2 jam.toNat ++ [reject]
  | .lanePart mode offset dropLead materials => [mode] ++ msbFirst 2 offset.toNat ++ [dropLead, materials]
  | .binPart service material capacity ratio warningMark =>
    [service, material] ++ msbFirst 2 capacity.toNat ++ [ratio] ++ msbFirst 2 warningMark.toNat

/-- The link, the request kind and the body bytes of a request command (Table 11-1, R169 to R171; the key bytes: log entry
22). -/
def requestOf : Instr → Option (Link × ReqKind × List Byte)
  | .openSession k => some (.lane k, .openSession, [])
  | .container k r =>
    some (.lane k, .container, [r.keyPresent] ++ msbFirst 6 r.key.toNat ++ msbFirst 2 r.weight.toNat ++ [r.shapeOk])
  | .endSession k => some (.lane k, .endSession, [])
  | .cancel k => some (.lane k, .cancel, [])
  | .laneQuery k => some (.lane k, .laneQuery, [])
  | .claim checkout code => some (.checkout, .claim, checkout :: code)
  | .redeem checkout code => some (.checkout, .redeem, checkout :: code)
  | .unclaim checkout code => some (.checkout, .unclaim, checkout :: code)
  | .cornerStatus => some (.office, .cornerStatus, [])
  | .beltEnable => some (.office, .beltEnable, [])
  | .beltStop => some (.office, .beltStop, [])
  | .jamClear => some (.office, .jamClear, [])
  | .recogWrite index enable key mask cls =>
    some (.office, .recogWrite, [index, enable] ++ msbFirst 6 key.toNat ++ msbFirst 6 mask.toNat ++ [cls])
  | .recogRead index => some (.office, .recogRead, [index])
  | .tariffBegin cls => some (.office, .tariffBegin, [cls])
  | .tariffData bytes => some (.office, .tariffData, bytes)
  | .tariffRead cls => some (.office, .tariffRead, [cls])
  | .binRelease chute => some (.office, .binRelease, [chute])
  | .binReturn chute => some (.office, .binReturn, [chute])
  | .binRead chute => some (.office, .binRead, [chute])
  | .rejectClear => some (.office, .rejectClear, [])
  | .voucherRead slot => some (.office, .voucherRead, [slot])
  | .voucherVoid slot serial => some (.office, .voucherVoid, slot :: msbFirst 2 serial.toNat)
  | .totalsRead => some (.office, .totalsRead, [])
  | .periodClose => some (.office, .periodClose, [])
  | .planStage selector fields => some (.office, .planStage, selector :: rawPartBytes fields)
  | .planRead plan part => some (.office, .planRead, [plan, part])
  | .planApply => some (.office, .planApply, [])
  | .encoderPulse _ | .leadingEdge _ | .trailingEdge | .estopAsserted | .estopReleased | .supwarnAsserted
  | .supwarnWithdrawn | .backupFlagChange _ _ | .resetAsserted | .mainSupplyLoss _ | .start _ _ _
  | .settleTimerExpiry _ | .claimWaitExpiry _ | .claimLapse _ | .gapTimerExpiry _ | .byteReceived _ _ _ | .probe _
  | .frameRefused _ _ _ _ | .frameTransmitted _ | .statusByteTransmitted _ => none

/-- Run commands one after another; `none` where one of them stops. -/
def runAll : List Instr → State → Option State
  | [], s => some s
  | c :: rest, s =>
    match exec c s with
    | .next t => runAll rest t
    | .fault _ => none
    | .refused _ => none

/-! ### An advance of the encoder count -/

/-- In this order the Gate Matcher takes an advance before the Merge Arbiter does (R4, R73). -/
def gateBeforeMerge : AdvanceOrder → Bool
  | .jamGateMerge | .gateJamMerge | .gateMergeJam => true
  | .jamMergeGate | .mergeJamGate | .mergeGateJam => false

/-- Belt Control after a pulse: the count is one higher, with wrap (R3). -/
def State.advanced (s : State) : State := { s with belt := { s.belt with count := s.belt.count + 1 } }

/-! ### Sessions and vouchers -/

/-- The response that a session close gives to its END (R49 step 4). -/
def closeResponse (i : SlotId) (serial : Serial) (amount count unconfirmed : Nat) (power : Bool) : Response :=
  if 0 < amount then .voucher i serial amount count unconfirmed (voucherFlags power false)
  else .noVoucher count unconfirmed (voucherFlags power false)

/-- The session of lane `k`, which held slot `i`, closed between `s` and `u` with these figures: the lane, the records and
the Voucher Table are as R49, R52, R117 and R120 say. -/
def State.SessionClosed (s u : State) (k : LaneId) (i : SlotId) (amount count unconfirmed : Nat) (power parks : Bool) :
    Prop :=
  u.lane k = { Lane.cold with
      state := if parks then .parked else .ready
      lastClose := some
        { voucher := if 0 < amount then some (i, s.table.serial + 1) else none
          amount := amount, count := count, unconfirmed := unconfirmed, powerClosed := power } } ∧
    (∀ j, j ≠ k → u.lane j = s.lane j) ∧
    (0 < amount →
      u.table.slot i = .issued
          { serial := s.table.serial + 1, amount := amount, count := count, unconfirmed := unconfirmed, lane := k,
            powerClosed := power, recovered := false } ∧
        (∀ j, j ≠ i → u.table.slot j = s.table.slot j) ∧
        u.table = { s.table with
          slots := u.table.slots, serial := s.table.serial + 1, outstanding := s.table.outstanding + amount
          totals := { u.table.totals with
            redeemed := s.table.totals.redeemed, voided := s.table.totals.voided
            paidUnreturned := s.table.totals.paidUnreturned } } ∧
        u.table.totals.issued = min (s.table.totals.issued + amount) 4294967295) ∧
    (amount = 0 →
      u.table = { s.table with stack := i :: s.table.stack, totals := u.table.totals } ∧
        u.table.totals.issued = s.table.totals.issued)

/-- A record detached from its session where its lane is `k` (R52). -/
def TransitRecord.detachedFrom (k : LaneId) (r : TransitRecord) : TransitRecord :=
  if r.lane = k then { r with attached := false } else r

/-- What a session of lane `k` is worth when its in-transit figures count as well (R51, R53, R148). -/
def State.owed (s : State) (k : LaneId) : Nat := (s.lane k).firmCredit + (s.lane k).transitCredit

/-- Several amounts added one after another to a total that saturates (R120). -/
def saturatingSum (total : Nat) (amounts : List Nat) : Nat := amounts.foldl (fun n a => min (n + a) 4294967295) total

/-- The free-slot stack after the slots of the sessions without an amount were pushed, lane after lane (R49, R117, R148). -/
def State.stackAfterPushes (s : State) : List SlotId :=
  ((laneIds.filter fun k => decide (s.owed k = 0)).filterMap fun k => (s.lane k).slot).reverse ++ s.table.stack

/-- The lanes whose session HOLD-UP closes with an amount above 0, in lane order (R53, R150). -/
def State.payingLanes (s : State) : List LaneId :=
  laneIds.filter fun k => (s.lane k).state.inSession && decide (0 < (s.lane k).firmCredit + (s.lane k).transitCredit)

/-- The lanes that a warm start recovers into a voucher, in lane order (R148). -/
def State.recoveringLanes (s : State) : List LaneId :=
  laneIds.filter fun k => (s.lane k).slot.isSome && decide (0 < (s.lane k).firmCredit + (s.lane k).transitCredit)

/-! ### Bins -/

/-- The state of a bin whose reserved fill has become `reserved`: a DRAINING bin left with none takes its target (R108). -/
def Bin.drained (b : Bin) (reserved : Nat) : BinState :=
  match b.state with
  | .draining .out => if reserved = 0 then .out else .draining .out
  | .draining .released => if reserved = 0 then .released else .draining .released
  | st => st

/-! ### Resolutions at the gate (Chapter 5) -/

/-- State `t` is state `s` with lane `k` closed as an ordinary close where it is SETTLING with nothing more in transit, and
is `s` otherwise (R50, R49): the END is answered, the records are detached, and a lane that parks has its STATE notice
set. -/
def State.EndsIfSettled (s t : State) (k : LaneId) : Prop :=
  (¬ ((s.lane k).state = .settling ∧ (s.lane k).transitCount = 0) → t = s) ∧
  ∀ i : SlotId, (s.lane k).state = .settling → (s.lane k).transitCount = 0 → (s.lane k).slot = some i →
    (s.port (.lane k)).inFlight = some .endSession →
    s.SessionClosed t k i (s.lane k).firmCredit (s.lane k).firmCount 0 false (s.lane k).parkPending ∧
    t.transit = s.transit.map (TransitRecord.detachedFrom k) ∧
    (s.port (.lane k)).AnsweredByEvent (t.port (.lane k))
      (closeResponse i (s.table.serial + 1) (s.lane k).firmCredit (s.lane k).firmCount 0 false).frame
      ((s.port (.lane k)).noticed (s.lane k).parkPending).notices ∧
    (∀ l, l ≠ .lane k → t.port l = s.port l) ∧
    t = { s with
      ports := t.ports, lanes := t.lanes, transit := t.transit
      table := { t.table with totals := { s.table.totals with issued := t.table.totals.issued } } }

/-- The session part of a resolution: an attached record can end its lane's SETTLING session, an orphan reaches no lane
(R50, R86, R87). -/
def State.EndsSessionOf (s t : State) (r : TransitRecord) : Prop :=
  if r.attached then s.EndsIfSettled t r.lane else t = s

/-- What the removal of the head of a queue leaves of the marks (R79, R64): merge-hold is evaluated and held formed again, with
the STATE notice of every lane where held changes (R56); only the bin of chute `b` changes, with the office BIN notice where
it drains (R114). -/
def State.HeadRemoved (s t : State) (rest : List TransitRecord) (b : BinId) : Prop :=
  t.transit = rest ∧
  (∀ a, a ≠ b → t.bin a = s.bin a) ∧
  t.merge = { s.merge with
    mergeHold := s.merge.mergeHold && !decide (rest.length ≤ s.corner.releaseMark), held := t.heldCauses } ∧
  t.port .checkout = s.port .checkout ∧
  t.port .office =
    (if (t.bin b).state = (s.bin b).state then s.port .office
     else { s.port .office with notices := { (s.port .office).notices with bin := true } })

/-- Between `s` and `t` the head `r` of the queue was declared missing (R87), but for the close of a session that it ends:
its reservation is released (R91, R108), an orphan's deposit joins the paid-unreturned total (R89), an attached record's
deposit leaves its session with the CREDIT notice (R46), and the missing-records total rises (R93). -/
def State.HeadMissed (s t : State) (r : TransitRecord) (rest : List TransitRecord) : Prop :=
  s.HeadRemoved t rest r.bin ∧
  t.bin r.bin = { s.bin r.bin with
    reserved := (s.bin r.bin).reserved - r.volume
    state := (s.bin r.bin).drained ((s.bin r.bin).reserved - r.volume) } ∧
  t.table = { s.table with totals := { s.table.totals with
    missing := min (s.table.totals.missing + 1) 4294967295
    paidUnreturned :=
      if r.attached then s.table.totals.paidUnreturned
      else min (s.table.totals.paidUnreturned + r.deposit) 4294967295 } } ∧
  (∀ k, t.lane k =
    if r.attached = true ∧ r.lane = k then
      { s.lane k with transitCredit := (s.lane k).transitCredit - r.deposit
                      transitCount := (s.lane k).transitCount - 1 }
    else s.lane k) ∧
  (∀ k, t.port (.lane k) =
    if r.attached = true ∧ r.lane = k then
      { (s.port (.lane k)).noticed (t.merge.held != s.merge.held) with
        notices := { ((s.port (.lane k)).noticed (t.merge.held != s.merge.held)).notices with credit := true } }
    else (s.port (.lane k)).noticed (t.merge.held != s.merge.held)) ∧
  t = { s with
    ports := t.ports, lanes := t.lanes, merge := t.merge, transit := t.transit, bins := t.bins, table := t.table }

/-- Between `s` and `t` the head `r` of the queue was matched (R86), but for the close of a session that it ends: the chute
select is driven to its chute (R15), its volume moves from reserved to confirmed fill (R90, R108), an attached record's
deposit becomes firm (R45), and the confirmed-containers total rises (R93). -/
def State.HeadMatched (s t : State) (r : TransitRecord) (rest : List TransitRecord) : Prop :=
  s.HeadRemoved t rest r.bin ∧
  t.chute.val = r.bin.val + 1 ∧
  t.bin r.bin = { s.bin r.bin with
    reserved := (s.bin r.bin).reserved - r.volume, confirmed := (s.bin r.bin).confirmed + r.volume
    items := min ((s.bin r.bin).items + 1) 65535
    state := (s.bin r.bin).drained ((s.bin r.bin).reserved - r.volume) } ∧
  t.table = { s.table with totals := { s.table.totals with
    confirmed := min (s.table.totals.confirmed + 1) 4294967295 } } ∧
  (∀ k, t.lane k =
    if r.attached = true ∧ r.lane = k then
      { s.lane k with
        transitCredit := (s.lane k).transitCredit - r.deposit, transitCount := (s.lane k).transitCount - 1
        firmCredit := (s.lane k).firmCredit + r.deposit, firmCount := (s.lane k).firmCount + 1 }
    else s.lane k) ∧
  (∀ k, t.port (.lane k) = (s.port (.lane k)).noticed (t.merge.held != s.merge.held)) ∧
  t = { s with
    ports := t.ports, chute := t.chute, lanes := t.lanes, merge := t.merge, transit := t.transit, bins := t.bins
    table := t.table }

/-- Between `s` and `t` a stray was taken (R88): chute 0 (R15), the reject-chute count and at-limit (R92, R112), the
stray-items total (R93) and the REJECT notice (R94); the head, the bins and the sessions stay. -/
def State.StrayTaken (s t : State) : Prop :=
  t.chute = 0 ∧
  t.reject.count = min (s.reject.count + 1) 255 ∧
  t.reject.atLimit = decide (s.corner.rejectLimit ≤ min (s.reject.count + 1) 255) ∧
  t.table = { s.table with totals := { s.table.totals with strays := min (s.table.totals.strays + 1) 4294967295 } } ∧
  t.merge = { s.merge with held := t.heldCauses } ∧
  (∀ k, t.port (.lane k) = (s.port (.lane k)).noticed (t.merge.held != s.merge.held)) ∧
  t.port .checkout = s.port .checkout ∧
  t.port .office = { s.port .office with notices := { (s.port .office).notices with reject := true } } ∧
  t = { s with ports := t.ports, chute := 0, merge := t.merge, reject := t.reject, table := t.table }

/-- Belt Control after a leading edge at the current count: the eye is blocked and the jam watch starts there (R9, R10). -/
def State.atEdge (s : State) : State :=
  { s with belt := { s.belt with eyeBlocked := true, watch := some s.belt.count } }

/-! ### Classification (Table 2-4) and the grant conditions (R66) -/

/-- The recognition lookup of a key ends at an entry of class `c`: that entry is enabled and matches, and no entry before
it does (R19). -/
def State.FoundClass (s : State) (key : ArticleKey) (c : ClassId) : Prop :=
  ∃ i : EntryId, s.recog.entries[i].enable = true ∧
    key &&& s.recog.entries[i].mask = s.recog.entries[i].key &&& s.recog.entries[i].mask ∧
    s.recog.entries[i].cls = c ∧
    ∀ j : EntryId, j < i → ¬ (s.recog.entries[j].enable = true ∧
      key &&& s.recog.entries[j].mask = s.recog.entries[j].key &&& s.recog.entries[j].mask)

/-- No enabled entry matches a key (R19). -/
def State.NoEntryMatches (s : State) (key : ArticleKey) : Prop :=
  ∀ j : EntryId, ¬ (s.recog.entries[j].enable = true ∧
    key &&& s.recog.entries[j].mask = s.recog.entries[j].key &&& s.recog.entries[j].mask)

/-- Check 4: the lane accepts the material and some bin of it is SERVING (R26). -/
def State.MaterialOpen (s : State) (k : LaneId) (material : Nat) : Prop :=
  (s.plans.active.lanes[k].materials.getLsbD material = true) ∧
    ∃ b : BinId, (s.bin b).state = .serving ∧ (s.bin b).material = material

/-- Check 5: the weight lies within the class's window (R27). -/
def TariffClass.WeighsIn (c : TariffClass) (weight : Nat) : Prop := c.weightMin ≤ weight ∧ weight ≤ c.weightMax

/-- Check 6: the shape is in order, or not required (R27). -/
def TariffClass.ShapeIn (c : TariffClass) (shapeOk : Bool) : Prop := c.shapeRequired = false ∨ shapeOk = true

/-- Check 7: both credit limits hold with the container added (R28). -/
def State.CreditRoom (s : State) (k : LaneId) (deposit : Nat) : Prop :=
  (s.lane k).firmCredit + s.provisionalCredit k + deposit ≤ 50000 ∧
    (s.lane k).firmCount + s.provisionalCount k + 1 ≤ 999

/-- Check 8 and half of condition 4: bin `b` is SERVING, of the material, and fits the volume at its ratio (R29, R69, R101,
R102). -/
def State.HasRoom (s : State) (material volume : Nat) (b : BinId) : Prop :=
  (s.bin b).state = .serving ∧ (s.bin b).material = material ∧
    (s.bin b).confirmed + (s.bin b).reserved + (volume * (s.bin b).ratio + 15) / 16 ≤ (s.bin b).capacity

/-- The sum by which R103 compares two bins for a container of volume `v`. -/
def State.fillWith (s : State) (v : Nat) (b : BinId) : Nat :=
  (s.bin b).confirmed + (s.bin b).reserved + (v * (s.bin b).ratio + 15) / 16

/-- Bin `b` is the fullest of the SERVING bins that fit, on the lowest chute among equals (R103). -/
def State.Fullest (s : State) (material v : Nat) (b : BinId) : Prop :=
  s.HasRoom material v b ∧
    ∀ a : BinId, s.HasRoom material v a →
      s.fillWith v a < s.fillWith v b ∨ (s.fillWith v a = s.fillWith v b ∧ b ≤ a)

/-- Conditions 1 to 3 of R66 for a claim at the current count. -/
def State.GapClear (s : State) (c : Claim) : Prop :=
  s.merge.held = false ∧ s.transit.length < 48 ∧
    ∀ r ∈ s.transit, s.plans.active.corner.gap ≤
      (signedDistance r.due (s.belt.count + BitVec.ofNat 16
        (s.plans.active.lanes[c.lane].offset + s.plans.active.lanes[c.lane].dropLead))).natAbs

/-! ### Plans -/

/-- The fields of a global part as a master sends them (R171). -/
def GlobalPart.raw (g : GlobalPart) : RawPart :=
  .globalPart (.ofNat 16 g.gap) (.ofNat 8 g.tolerance) (.ofNat 8 g.holdMark) (.ofNat 8 g.releaseMark)
    (.ofNat 16 g.claimWaitLimit) (.ofNat 24 g.settleLimit) (.ofNat 16 g.jamLength) (.ofNat 8 g.rejectLimit)

/-- The fields of a lane part as a master sends them (R171). -/
def LanePart.raw (l : LanePart) : RawPart :=
  .lanePart (if l.mode = .opened then 1 else 0) (.ofNat 16 l.offset) (.ofNat 8 l.dropLead) l.materials

/-- The fields of a bin part as a master sends them (R171). -/
def BinPart.raw (b : BinPart) : RawPart :=
  .binPart (if b.service = .serving then 1 else 0) (.ofNat 8 b.material) (.ofNat 16 b.capacity) (.ofNat 8 b.ratio)
    (.ofNat 16 b.warningMark)

/-- The seven checks of Table 8-4, numbered 1 to 7. -/
def State.PlanCheck (s : State) (n : Nat) : Prop :=
  let p := s.plans.staged
  match n with
  | 1 => p.corner.inRange = true ∧ (∀ k : LaneId, p.lanes[k].inRange = true) ∧ ∀ b : BinId, p.bins[b].inRange = true
  | 2 => 2 * p.corner.tolerance < p.corner.gap
  | 3 => p.corner.releaseMark < p.corner.holdMark
  | 4 => ∀ k : LaneId, p.lanes[k].mode = .opened → ∀ m, 1 ≤ m → m ≤ 7 → p.lanes[k].materials.getLsbD m = true →
      ∃ b : BinId, p.bins[b].service = .serving ∧ p.bins[b].material = m
  | 5 => ∀ b : BinId, p.bins[b].material ≠ s.plans.active.bins[b].material →
      (s.bin b).confirmed = 0 ∧ (s.bin b).reserved = 0
  | 6 => ∀ b : BinId, (s.bin b).confirmed + (s.bin b).reserved ≤ p.bins[b].capacity ∧
      p.bins[b].warningMark ≤ p.bins[b].capacity
  | 7 => s.transit ≠ [] → p.corner.gap = s.plans.active.corner.gap ∧
      p.corner.tolerance = s.plans.active.corner.tolerance
  | _ => True

end Sys2Proof.Machine
end

