-- ==== Sys2Proof/Certificates/Slice0/Obligations.lean ====
section
/-! DEFINITION. The obligations: what the provers are asked to prove of the model.  Each docstring names the rules of spec/
that the statement formalises, or the log entry of a choice of the model that it rests on. -/


open Sys2Proof Sys2Proof.Machine

/-- A step with a command at the front of the queue is that command's effect on the state with the queue's rest. -/
def Obligations.StepRunsFrontCommand : Prop :=
  ∀ (c : Instr) (s : State) (rest : List Instr),
    step { s with pending := c :: rest } = exec c { s with pending := rest }

/-- The state after reset has every law of Sys2Proof/Safety.lean, and all 128 slots are in the groups of R117.  State.reset is
the state after a cold start; that its lines read clear, released and withdrawn is the model's choice (log entry 4). -/
def Obligations.ResetMeetsLaws : Prop :=
  State.reset.FlagsAgree ∧ State.reset.SlotsConserved ∧ State.reset.OutstandingAgrees ∧ State.reset.BinsKeepLaws ∧
    State.reset.TransitFiguresAgree ∧ State.reset.ClaimsInFlight ∧ State.reset.ParkPendingInSession ∧
    State.reset.SettleTimersRun ∧ State.reset.QueuesBounded ∧ State.reset.PlanInRange ∧ State.reset.BeltSpaced ∧
    State.reset.MergeHoldMarked ∧ State.reset.CreditLimited ∧ State.reset.slotGroups = 128

/-- MODEL'S CHOICE (log entry 2): a step on an empty queue is one 10 ms timebase step of R2.  Every timer rises by 10 ms.  A
timer expires at the step that brings it to its limit: a settle or claim-wait timer at its own limit, a claim lapse timer at
120,000 ms, a gap timer at 20 ms.  The step puts the expiry command of each timer that is there, once, at the front of the
queue, so that the steps that follow take them before anything else (log entry 6; with two or more their order is free, log
entry 3).  Nothing else changes.  While the part is down no timebase step is taken (R146). -/
def Obligations.IdleStepRaisesTimers : Prop :=
  ∀ s : State, s.pending = [] →
    (s.isUp = false → step s = .next s) ∧
    (s.isUp = true → ∃ t : State, step s = .next t ∧ s.TimersRaised t ∧
      t.pending.Nodup ∧ (∀ c, c ∈ t.pending ↔ t.AtLimit c) ∧ (t.pending.length ≤ 1 → t.choices = s.choices))

/-- While RESET is asserted or main supply is lost, no pulse, edge, line change, byte, frame or timer is taken: only
RESET, a loss of main supply and a start act (R146).  R146 names bytes, pulses, edges, changes of ESTOP and SUPWARN and
timebase steps; that nothing else acts either, a change of a backup comparator among them, is DEDUCED (log entry 13). -/
def Obligations.InputsNotTakenWhileDown : Prop :=
  ∀ (c : Instr) (s : State), s.isUp = false →
    exec c s = .next s ∨ c = .resetAsserted ∨ (∃ b, c = .mainSupplyLoss b) ∨ ∃ o l n, c = .start o l n

/-! ### Belt Control and the Gate Matcher -/

/-- A pulse advances the encoder count by one with wrap, in every belt state and supply state (R3), whatever the order of
the advance's takers (R4).  Where the watch is idle and the head is not at its missing point, the advance is the Merge
Arbiter's pass over the waiting claims at the new count (R70) and nothing else, so that with no claim waiting nothing but the
count changes. -/
def Obligations.EncoderPulseAdvancesCount : Prop :=
  ∀ (order : AdvanceOrder) (s : State), s.isUp = true → ∃ t : State, exec (.encoderPulse order) s = .next t ∧
    t.belt.count = s.belt.count + 1 ∧ t.belt.enable = s.belt.enable ∧ t.belt.estopPressed = s.belt.estopPressed ∧
    t.belt.eyeBlocked = s.belt.eyeBlocked ∧ t.chute = s.chute ∧ t.recog = s.recog ∧ t.reject = s.reject ∧
    t.plans = s.plans ∧ t.supply = s.supply ∧ t.choices = s.choices ∧ t.pending = s.pending ∧
    (s.belt.watch = none →
      (∀ r rest, s.transit = r :: rest → signedDistance r.due (s.belt.count + 1) ≠ s.corner.tolerance + 1) →
      (s.PlanInRange → t = s.advanced.mergePass) ∧ (s.merge.claims = [] → t = s.advanced))

/-- The jam watch at an advance (R12): at a distance of the jam length or more a jam is declared, the watch is idle, the
belt stops and the office BELT notice is set; below it Belt Control only counts. -/
def Obligations.JamWatchOnAdvance : Prop :=
  ∀ (order : AdvanceOrder) (s : State) (from_ : Count), s.isUp = true → s.belt.watch = some from_ →
    ∃ t : State, exec (.encoderPulse order) s = .next t ∧
      ((s.corner.jamLength : Int) ≤ signedDistance from_ (s.belt.count + 1) →
        t.belt = { s.belt with count := s.belt.count + 1, jam := true, watch := none, running := false } ∧
        (t.port .office).notices.belt = true) ∧
      (signedDistance from_ (s.belt.count + 1) < s.corner.jamLength →
        t.belt = { s.belt with count := s.belt.count + 1 })

/-- An advance that brings the count to the head's missing point declares the head missing (R85, R87): the record leaves
the queue, its reservation is released (R91, R108), an orphan's deposit joins the paid-unreturned total (R89), an attached
record's deposit leaves its session with the CREDIT notice (R46) and then ends a SETTLING session whose last record it was
(R50), and the missing-records total rises.  Where the Gate Matcher takes the advance first, the removal's pass and the
advance's pass over the waiting claims both follow; where the Merge Arbiter takes it first, its pass tests the claims against
the record still in the queue, and the removal's pass follows (R73, R70, R95).  Stated with the watch idle. -/
def Obligations.MissingPointOnAdvance : Prop :=
  ∀ (order : AdvanceOrder) (s : State) (r : TransitRecord) (rest : List TransitRecord), s.isUp = true →
    (s.merge.claims = [] ∨ s.PlanInRange) → s.belt.watch = none → s.transit = r :: rest →
    signedDistance r.due (s.belt.count + 1) = s.corner.tolerance + 1 →
    (gateBeforeMerge order = true → ∃ m u : State,
      s.advanced.HeadMissed m r rest ∧ m.EndsSessionOf u r ∧
      exec (.encoderPulse order) s = .next u.mergePass.mergePass) ∧
    (gateBeforeMerge order = false → ∃ (rest' : List TransitRecord) (m u : State),
      s.advanced.mergePass.transit = r :: rest' ∧ s.advanced.mergePass.HeadMissed m r rest' ∧ m.EndsSessionOf u r ∧
      exec (.encoderPulse order) s = .next u.mergePass)

/-- A trailing edge ends the jam watch and changes nothing else, a declared jam included (R11).  EYE is a level: with the
eye clear no trailing edge is taken, and with the eye blocked no leading edge (R9; DEDUCED, log entry 8); a pulse that comes
together with such a leading edge is an ordinary pulse. -/
def Obligations.EdgesFollowEyeLevel : Prop :=
  ∀ s : State, s.isUp = true →
    (s.belt.eyeBlocked = true →
      exec .trailingEdge s = .next { s with belt := { s.belt with eyeBlocked := false, watch := none } } ∧
      exec (.leadingEdge none) s = .next s ∧
      ∀ order, exec (.leadingEdge (some order)) s = exec (.encoderPulse order) s) ∧
    (s.belt.eyeBlocked = false → exec .trailingEdge s = .next s)

/-- A leading edge in the head's window is a match (R82, R86): the record leaves the queue and merge-hold and held are
evaluated, the chute select is driven to its chute, its volume moves from reserved to confirmed fill (R90, with the drain
of R108), an attached record's deposit becomes firm (R45) and then ends a SETTLING session whose last record it was (R50),
an orphan reaches no lane, and the confirmed-containers total rises; Belt Control starts the jam watch (R10).  The pass
follows (R95). -/
def Obligations.MatchOfHead : Prop :=
  ∀ (s : State) (r : TransitRecord) (rest : List TransitRecord), s.isUp = true → s.belt.eyeBlocked = false →
    s.transit = r :: rest → -(s.corner.tolerance : Int) ≤ signedDistance r.due s.belt.count →
    signedDistance r.due s.belt.count ≤ s.corner.tolerance →
    ∃ m u : State, exec (.leadingEdge none) s = .next u.mergePass ∧
      s.atEdge.HeadMatched m r rest ∧ m.EndsSessionOf u r

/-- A leading edge with no record on the belt, or early for the head, is a stray (R82, R88): chute 0 (R15), the
reject-chute count and at-limit (R92, R112), the stray-items total (R93) and the REJECT notice (R94); the head, the bins
and the sessions stay, and no pass is made. -/
def Obligations.StrayEdge : Prop :=
  ∀ s : State, s.isUp = true → s.belt.eyeBlocked = false →
    (∀ r rest, s.transit = r :: rest → signedDistance r.due s.belt.count < -(s.corner.tolerance : Int)) →
    ∃ t : State, exec (.leadingEdge none) s = .next t ∧ s.atEdge.StrayTaken t

/-- A late edge (R82, R83, R93): the edge that comes with the advance to the head's missing point and is taken first at the
Gate Matcher (log entry 5).  First the head is declared missing with all the effects of R87, then the edge is decided again
against the record that is now the head: that head's window opens at the edge at the earliest, so the decision is a match
where the edge lies on its opening, and a stray otherwise and on an empty queue.  The passes of the removals come after the
second decision (R84), and the Merge Arbiter's pass for the advance after them; with the advance taken first by the Merge
Arbiter, only without a claim waiting (`EdgeAndAdvanceAgree` gives that order). -/
def Obligations.LateEdge : Prop :=
  ∀ (order : AdvanceOrder) (s : State) (r : TransitRecord) (rest : List TransitRecord), s.isUp = true →
    s.belt.eyeBlocked = false → s.belt.watch = none → (s.merge.claims = [] ∨ gateBeforeMerge order = true) →
    s.PlanInRange → s.BeltSpaced → s.transit = r :: rest →
    signedDistance r.due (s.belt.count + 1) = s.corner.tolerance + 1 →
    ∃ m n t : State, s.advanced.atEdge.HeadMissed m r rest ∧ m.EndsSessionOf n r ∧
      (∀ q rest', n.transit = q :: rest' →
        signedDistance q.due n.belt.count ≤ -(s.corner.tolerance : Int) ∧
        (signedDistance q.due n.belt.count = -(s.corner.tolerance : Int) → ∃ p : State,
          n.HeadMatched p q rest' ∧ p.EndsSessionOf t q ∧
          exec (.leadingEdge (some order)) s = .next t.mergePass.mergePass.mergePass) ∧
        (signedDistance q.due n.belt.count < -(s.corner.tolerance : Int) →
          n.StrayTaken t ∧ exec (.leadingEdge (some order)) s = .next t.mergePass.mergePass)) ∧
      (n.transit = [] → n.StrayTaken t ∧ exec (.leadingEdge (some order)) s = .next t.mergePass.mergePass)

/-- An edge and the advance that it comes with, the pulse first at Belt Control and the edge first at the Gate Matcher, which
the model sends as one command (log entry 5).  Wherever the head stands (in its window, early, at its missing point, or no
head), that command is the edge at the new count followed by the Merge Arbiter's pass for the advance, or that pass followed
by the edge, as the Merge Arbiter takes the advance after the Gate Matcher or before it (R4, R10, R73).  At the head's missing
point the two orders of R83 agree: the pulse and then the edge end in the same state.  The last is stated with no claim
waiting (with one, R84 lets the orders differ). -/
def Obligations.EdgeAndAdvanceAgree : Prop :=
  ∀ (order : AdvanceOrder) (s : State), s.isUp = true → s.belt.eyeBlocked = false → s.belt.watch = none →
    s.PlanInRange → s.BeltSpaced →
    (gateBeforeMerge order = true → ∃ u : State, exec (.leadingEdge none) s.advanced = .next u ∧
      exec (.leadingEdge (some order)) s = .next u.mergePass) ∧
    (gateBeforeMerge order = false → ∃ u : State, exec (.leadingEdge none) s.advanced.mergePass = .next u ∧
      exec (.leadingEdge (some order)) s = .next u) ∧
    ∀ r rest, s.merge.claims = [] → s.transit = r :: rest →
      signedDistance r.due (s.belt.count + 1) = s.corner.tolerance + 1 →
      ∃ t u : State, exec (.leadingEdge (some order)) s = .next t ∧ exec (.encoderPulse order) s = .next u ∧
        exec (.leadingEdge none) u = .next t

/-- ESTOP (R8): an assertion makes the state pressed, stops the belt (R7) and sets the BELT notice, whether or not the belt
was running; a release makes it released, and the belt resumes where the other conditions of R7 hold, with the pass of a
released hold (R63).  A change of running is reported, and held is then formed again. -/
def Obligations.EstopFollowsLine : Prop :=
  ∀ s : State, s.isUp = true →
    (∃ t : State, exec .estopAsserted s = .next t ∧
      t.belt = { s.belt with estopPressed := true, running := false } ∧
      t.merge = (if s.belt.running then { s.merge with held := true } else s.merge) ∧
      (∀ k, t.port (.lane k) = (s.port (.lane k)).noticed (t.merge.held != s.merge.held)) ∧
      t.port .checkout = s.port .checkout ∧
      t.port .office = { s.port .office with notices := { (s.port .office).notices with belt := true } } ∧
      t = { s with ports := t.ports, belt := t.belt, merge := t.merge }) ∧
    (∃ u : State, exec .estopReleased s =
        .next (if s.merge.held = true ∧ u.merge.held = false then u.mergePass else u) ∧
      u.belt = { s.belt with
        estopPressed := false, running := s.belt.enable && !s.belt.jam && s.supply.state == .normal } ∧
      u.merge = (if u.belt.running = s.belt.running then s.merge else { s.merge with held := u.heldCauses }) ∧
      (∀ k, u.port (.lane k) = (s.port (.lane k)).noticed (u.merge.held != s.merge.held)) ∧
      u.port .checkout = s.port .checkout ∧ u.port .office = s.port .office ∧
      u = { s with ports := u.ports, belt := u.belt, merge := u.merge })

/-! ### The Supply Monitor -/

/-- SUPWARN in NORMAL takes the corner into HOLD-UP (R150): the belt stops, held is yes, every lane is PARKED without a
session or a claim, the active lane modes are PARKED and nothing else of the plans changes (R143), every power flag and the
SUPPLY notice are set, and no request is in flight.  A waiting claim's CONTAINER is answered REFUSE POWER, and a lane with
nothing in flight is sent nothing, its supply close included (the END of a SETTLING lane is answered as `SupplyClosePays`
says) (R53).  In HOLD-UP an assertion changes nothing. -/
def Obligations.SupwarnEntersHoldUp : Prop :=
  ∀ s : State, s.isUp = true →
    (s.supply.state = .holdUp → exec .supwarnAsserted s = .next s) ∧
    (s.supply.state = .normal → s.ClaimsInFlight → s.SlotsConserved →
      ∃ t : State, exec .supwarnAsserted s = .next t ∧
        t.supply = { s.supply with state := .holdUp } ∧ t.belt = { s.belt with running := false } ∧
        t.merge = { s.merge with claims := [], held := true } ∧
        (∀ k, (t.lane k).state = .parked ∧ (t.lane k).slot = none) ∧
        (∀ k, (s.lane k).state = .parked → t.lane k = s.lane k) ∧
        t.transit = s.transit.map (fun r => if (s.lane r.lane).state.inSession then { r with attached := false } else r) ∧
        t.plans.staged = s.plans.staged ∧ t.plans.active.corner = s.plans.active.corner ∧
        t.plans.active.bins = s.plans.active.bins ∧
        (∀ k : LaneId, t.plans.active.lanes[k] = { s.plans.active.lanes[k] with mode := .parked }) ∧
        (∀ l, (t.port l).power = true ∧ (t.port l).inFlight = none) ∧
        (∀ (k : LaneId) (p : LinkPort),
          p = { (s.port (.lane k)).noticed (!s.merge.held || (s.lane k).state != .parked) with power := true } →
          ((s.port (.lane k)).inFlight = some .container →
            p.AnsweredByEvent (t.port (.lane k)) (refusal .container .power).frame p.notices) ∧
          ((s.port (.lane k)).inFlight = none → t.port (.lane k) = p) ∧
          (t.port (.lane k)).notices = p.notices) ∧
        t.port .checkout = { s.port .checkout with power := true } ∧
        t.port .office = { s.port .office with
          power := true, notices := { (s.port .office).notices with supply := true } } ∧
        t = { s with
          ports := t.ports, belt := t.belt, lanes := t.lanes, merge := t.merge, transit := t.transit, table := t.table
          plans := t.plans, supply := t.supply })

/-- The supply closes of a HOLD-UP (R53, R49): the session of every ACTIVE or SETTLING lane is issued as a POWER-CLOSED
voucher that carries its firm and in-transit figures, the latter as unconfirmed, with serials in lane order (R150), or its
slot is pushed where the amount is 0.  The last-close record keeps the outcome, with slot and serial where a voucher was
issued, and the END of a SETTLING lane is answered VOUCHER or NO-VOUCHER with the POWER-CLOSED flag.  Of the Voucher Table
only the slots of these sessions, the stack, the serial, the issued total and the outstanding amount change. -/
def Obligations.SupplyClosePays : Prop :=
  ∀ s : State, s.isUp = true → s.supply.state = .normal → s.SlotsConserved →
    ∃ t : State, exec .supwarnAsserted s = .next t ∧
      (∀ (k : LaneId) (i : SlotId) (serial : Serial) (amount count unconfirmed : Nat), (s.lane k).slot = some i →
        serial = s.table.serial + BitVec.ofNat 16 (s.payingLanes.filter (· ≤ k)).length →
        amount = (s.lane k).firmCredit + (s.lane k).transitCredit →
        count = (s.lane k).firmCount + (s.lane k).transitCount → unconfirmed = (s.lane k).transitCount →
        (t.lane k).lastClose = some
          { voucher := if 0 < amount then some (i, serial) else none
            amount := amount, count := count, unconfirmed := unconfirmed, powerClosed := true } ∧
        (0 < amount →
          t.table.slot i = .issued
            { serial := serial, amount := amount, count := count, unconfirmed := unconfirmed, lane := k
              powerClosed := true, recovered := false }) ∧
        (amount = 0 → t.table.slot i = .free ∧ i ∈ t.table.stack) ∧
        ((s.lane k).state = .settling → (s.port (.lane k)).inFlight = some .endSession →
          LinkPort.AnsweredByEvent { (s.port (.lane k)).noticed true with power := true } (t.port (.lane k))
            (closeResponse i serial amount count unconfirmed true).frame ((s.port (.lane k)).noticed true).notices)) ∧
      (∀ i : SlotId, (∀ k, (s.lane k).slot ≠ some i) → t.table.slot i = s.table.slot i) ∧
      t.table =
        { slots := t.table.slots, stack := s.stackAfterPushes
          serial := s.table.serial + BitVec.ofNat 16 s.payingLanes.length
          outstanding := s.table.outstanding + (s.payingLanes.map s.owed).sum
          totals := { s.table.totals with
            issued := saturatingSum s.table.totals.issued (s.payingLanes.map s.owed) } }

/-- The withdrawal of SUPWARN returns to NORMAL (R152): running and held are formed again, the SUPPLY notice is set, the
power flags, the lanes and the plans stay, and the pass of a released hold follows; in NORMAL it changes nothing.  The
backup-cell flags follow their comparators, and the SUPPLY notice is set where either becomes yes (R153). -/
def Obligations.SupplyLinesFollowed : Prop :=
  ∀ s : State, s.isUp = true →
    (s.supply.state = .normal → exec .supwarnWithdrawn s = .next s) ∧
    (s.supply.state = .holdUp → ∃ u : State, exec .supwarnWithdrawn s =
        .next (if s.merge.held = true ∧ u.merge.held = false then u.mergePass else u) ∧
      u.supply = { s.supply with state := .normal } ∧
      u.belt = { s.belt with running := s.belt.enable && !s.belt.estopPressed && !s.belt.jam } ∧
      u.merge = { s.merge with held := u.heldCauses } ∧
      (∀ k, u.port (.lane k) = (s.port (.lane k)).noticed (u.merge.held != s.merge.held)) ∧
      u.port .checkout = s.port .checkout ∧
      u.port .office = { s.port .office with notices := { (s.port .office).notices with supply := true } } ∧
      u = { s with ports := u.ports, belt := u.belt, merge := u.merge, supply := u.supply }) ∧
    (∀ low lost : Bool, ∃ t : State, exec (.backupFlagChange low lost) s = .next t ∧
      t.supply = { s.supply with backupLow := low, backupLost := lost } ∧
      t.port .office = (if (low = true ∧ s.supply.backupLow = false) ∨ (lost = true ∧ s.supply.backupLost = false) then
          { s.port .office with notices := { (s.port .office).notices with supply := true } }
        else s.port .office) ∧
      (∀ l, l ≠ .office → t.port l = s.port l) ∧
      t = { s with ports := t.ports, supply := t.supply })

/-- RESET and the loss of main supply (R145, R146): the outputs are idle (BRUN, the chute select, every ATTN), the part takes
no more inputs, and the retained domain keeps what it held: the tables of the Recognition Unit, the lane money, the bins,
the reject count, the Voucher Table, and the active plan but its lane modes.  The retention marker
clears only where the retained supply fails.  What the volatile parts show while the part is down is the model's choice (log
entry 13), and so is that the values stand where the retained supply fails too: R146 says that they are lost then, and the
cold start that follows replaces them (log entry 14). -/
def Obligations.ResetAndSupplyLoss : Prop :=
  ∀ s : State,
    ∃ t : State, exec .resetAsserted s = .next t ∧ t.isUp = false ∧ t.supply.marker = s.supply.marker ∧
      ∀ backupFails : Bool, ∃ v : State, exec (.mainSupplyLoss backupFails) s = .next v ∧ v.supply.phase = .supplyLost ∧
        v.supply.marker = (s.supply.marker && !backupFails) ∧
        ∀ x, x = t ∨ x = v →
          x.belt.running = false ∧ x.chute = 0 ∧ (∀ l, (x.port l).attn = false ∧ (x.port l).transmitter = .idle) ∧
          x.transit = [] ∧ x.merge.claims = [] ∧
          x.recog = s.recog.closed ∧ x.bins = s.bins ∧ x.reject = s.reject ∧ x.table = s.table ∧
          x.plans.active.corner = s.plans.active.corner ∧ x.plans.active.bins = s.plans.active.bins ∧
          (∀ k : LaneId, x.plans.active.lanes[k] = { s.plans.active.lanes[k] with mode := .parked }) ∧
          (∀ k, (x.lane k).slot = (s.lane k).slot ∧ (x.lane k).firmCredit = (s.lane k).firmCredit ∧
            (x.lane k).firmCount = (s.lane k).firmCount ∧ (x.lane k).transitCredit = (s.lane k).transitCredit ∧
            (x.lane k).transitCount = (s.lane k).transitCount)

/-- A cold start (R146, R147, R164): with the marker clear, whatever the start began by, every part takes its cold value,
Belt Control reads EYE and ESTOP (R17), the flags their comparators (R153), the cause is COLD and the marker is set; an
asserted SUPWARN is then HOLD-UP (R152). -/
def Obligations.ColdStart : Prop :=
  ∀ (o : StartOrigin) (lines : StartLines) (s : State), s.supply.marker = false →
    exec (.start o lines none) s = .next { State.reset with
      belt :=
        { count := 0, enable := false, estopPressed := lines.estopPressed, eyeBlocked := lines.eyeBlocked
          watch := if lines.eyeBlocked then some 0 else none, jam := false, running := false }
      supply :=
        { phase := .running, state := if lines.supwarn then .holdUp else .normal, cause := .cold, recovered := 0
          backupLow := lines.backupLow, backupLost := lines.backupLost, marker := true }
      choices := s.choices
      pending := s.pending }

/-- A warm start (R149, R164): with the marker set the retained tables, fills, vouchers, stack and plan are kept, CLAIMED
vouchers enter ISSUED (R134), reservations are 0 and drains complete (R115), every lane is PARKED with a cold context (R37),
the volatile parts take their start values, the lane modes are PARKED in both plans (R144), and the cause is SUPPLY or PIN
(R146).  The recovered sessions (R148) are the only change of the Voucher Table beside the CLAIMED vouchers: slots without an
amount join the stack above the slots it held, each voucher issued raises the serial by one and the issued total and the
outstanding amount by its amount, and every other total stays (R117, R134, R149). -/
def Obligations.WarmStart : Prop :=
  ∀ (o : StartOrigin) (lines : StartLines) (s : State), s.supply.marker = true →
    ∃ t : State, exec (.start o lines none) s = .next t ∧
      t.ports = State.reset.ports ∧
      t.belt =
        { count := 0, enable := false, estopPressed := lines.estopPressed, eyeBlocked := lines.eyeBlocked
          watch := if lines.eyeBlocked then some 0 else none, jam := false, running := false } ∧
      t.chute = 0 ∧ t.recog = s.recog.closed ∧ (∀ k, t.lane k = Lane.cold) ∧
      t.merge = { claims := [], mergeHold := false, held := true } ∧ t.transit = [] ∧
      (∀ b, t.bin b = { s.bin b with reserved := 0, state := (s.bin b).drained 0 }) ∧
      t.reject = { count := s.reject.count, atLimit := decide (s.corner.rejectLimit ≤ s.reject.count) } ∧
      (∀ i : SlotId, (∀ k, (s.lane k).slot ≠ some i) →
        (s.table.slot i = .free → t.table.slot i = .free) ∧
        (∀ v, s.table.slot i = .issued v → t.table.slot i = .issued v) ∧
        (∀ v c e, s.table.slot i = .claimed v c e → t.table.slot i = .issued v)) ∧
      t.table =
        { slots := t.table.slots, stack := s.stackAfterPushes
          serial := s.table.serial + BitVec.ofNat 16 s.recoveringLanes.length
          outstanding := s.table.outstanding + (s.recoveringLanes.map s.owed).sum
          totals := { s.table.totals with
            issued := saturatingSum s.table.totals.issued (s.recoveringLanes.map s.owed) } } ∧
      t.plans.staged = t.plans.active ∧ t.plans.active.corner = s.plans.active.corner ∧
      t.plans.active.bins = s.plans.active.bins ∧
      (∀ k : LaneId, t.plans.active.lanes[k] = { s.plans.active.lanes[k] with mode := .parked }) ∧
      t.supply.phase = .running ∧ t.supply.state = (if lines.supwarn then .holdUp else .normal) ∧
      t.supply.cause = (if s.supply.phase = .supplyLost ∨ o = .powerOn then .supply else .pin) ∧
      t.supply.backupLow = lines.backupLow ∧ t.supply.backupLost = lines.backupLost ∧ t.supply.marker = true

/-- The session recovery of a warm start (R148): every lane whose retained fields show a slot is recovered, in lane order,
into a RECOVERED voucher with its in-transit figures unconfirmed, or into a pushed slot where the amount is 0, and is
counted. -/
def Obligations.WarmStartRecovers : Prop :=
  ∀ (o : StartOrigin) (lines : StartLines) (s : State), s.supply.marker = true → s.SlotsConserved →
    ∃ t : State, exec (.start o lines none) s = .next t ∧
      t.supply.recovered = (laneIds.filter fun k => (s.lane k).slot.isSome).length ∧
      (∀ (k : LaneId) (i : SlotId), (s.lane k).slot = some i →
        (0 < (s.lane k).firmCredit + (s.lane k).transitCredit →
          t.table.slot i = .issued
            { serial := s.table.serial + BitVec.ofNat 16 (s.recoveringLanes.filter (· ≤ k)).length
              amount := (s.lane k).firmCredit + (s.lane k).transitCredit
              count := (s.lane k).firmCount + (s.lane k).transitCount
              unconfirmed := (s.lane k).transitCount, lane := k, powerClosed := false, recovered := true }) ∧
        ((s.lane k).firmCredit + (s.lane k).transitCredit = 0 → t.table.slot i = .free ∧ i ∈ t.table.stack)) ∧
      t.table.serial = s.table.serial + BitVec.ofNat 16 s.recoveringLanes.length ∧
      t.table.outstanding = s.table.outstanding +
        (s.recoveringLanes.map fun k => (s.lane k).firmCredit + (s.lane k).transitCredit).sum ∧
      (∀ i : SlotId, i ∈ t.table.stack ∨ (t.table.slot i).used = true)

/-- A warm start that is cut short is followed by a warm start that resumes the recovery where it was left (R146): the two
together end in the state of one uninterrupted start, but for the recovered-session count.  The cut start leaves the marker
as it found it, set or clear.  That START carries the cut as an operand, the number of lanes recovered before main supply
left, is the model's choice (log entry 12). -/
def Obligations.CutStartResumes : Prop :=
  ∀ (o : StartOrigin) (l lines : StartLines) (n : Nat) (s : State), s.supply.phase = .supplyLost →
    ∃ u : State, exec (.start o l (some n)) s = .next u ∧ u.supply.phase = .supplyLost ∧ u.supply.marker = s.supply.marker ∧
      (s.supply.marker = true → ∃ t v : State, exec (.start .powerOn lines none) s = .next t ∧
        exec (.start .powerOn lines none) u = .next v ∧
        v = { t with supply := { t.supply with recovered := v.supply.recovered } })

/-! ### Timers and claims -/

/-- The end of a SETTLING session whose END is in flight.  At the expiry of its settle timer it is closed as a limit close
(R51): its in-transit figures count as unconfirmed.  At the match of its last attached record it is closed as an ordinary
close (R50), after the deposit has become firm (R45); at the missing declaration of its last attached record it is closed as
an ordinary close too, with the CREDIT notice set and the deposit not paid (R46).  All three answer the END by the close
(R49), detach the records (R52) and take the lane to READY, or to PARKED with its STATE notice where park-pending is set
(R57).  Stated for the missing declaration at an advance, with no claim waiting and the watch idle.  An expiry at any other
lane state finds no timer and changes nothing (R48); that an expiry command sent before a timebase step has brought the
timer to its limit changes nothing is the model's choice (log entry 6). -/
def Obligations.SettlingSessionCloses : Prop :=
  ∀ (s : State) (k : LaneId), s.isUp = true →
    ((s.lane k).state ≠ .settling → exec (.settleTimerExpiry k) s = .next s) ∧
    (¬ s.AtLimit (.settleTimerExpiry k) → exec (.settleTimerExpiry k) s = .next s) ∧
    ∀ i : SlotId, (s.lane k).state = .settling → (s.lane k).slot = some i →
      (s.port (.lane k)).inFlight = some .endSession →
      (s.AtLimit (.settleTimerExpiry k) → ∃ t : State, exec (.settleTimerExpiry k) s = .next t ∧
        s.SessionClosed t k i ((s.lane k).firmCredit + (s.lane k).transitCredit)
          ((s.lane k).firmCount + (s.lane k).transitCount) (s.lane k).transitCount false (s.lane k).parkPending ∧
        t.transit = s.transit.map (TransitRecord.detachedFrom k) ∧
        (s.port (.lane k)).AnsweredByEvent (t.port (.lane k))
          (closeResponse i (s.table.serial + 1) ((s.lane k).firmCredit + (s.lane k).transitCredit)
            ((s.lane k).firmCount + (s.lane k).transitCount) (s.lane k).transitCount false).frame
          ((s.port (.lane k)).noticed (s.lane k).parkPending).notices ∧
        (∀ l, l ≠ .lane k → t.port l = s.port l) ∧
        t = { s with
          ports := t.ports, lanes := t.lanes, transit := t.transit
          table := { t.table with totals := { s.table.totals with issued := t.table.totals.issued } } }) ∧
      (∀ r rest, s.transit = r :: rest → r.attached = true → r.lane = k → (s.lane k).transitCount = 1 →
        (s.belt.eyeBlocked = false → -(s.corner.tolerance : Int) ≤ signedDistance r.due s.belt.count →
          signedDistance r.due s.belt.count ≤ s.corner.tolerance →
          ∃ u : State, exec (.leadingEdge none) s = .next u.mergePass ∧
            s.SessionClosed u k i ((s.lane k).firmCredit + r.deposit) ((s.lane k).firmCount + 1) 0 false
              (s.lane k).parkPending ∧
            u.transit = rest.map (TransitRecord.detachedFrom k) ∧
            u.table.totals = { s.table.totals with
              issued := u.table.totals.issued, confirmed := min (s.table.totals.confirmed + 1) 4294967295 } ∧
            (s.port (.lane k)).AnsweredByEvent (u.port (.lane k))
              (closeResponse i (s.table.serial + 1) ((s.lane k).firmCredit + r.deposit) ((s.lane k).firmCount + 1) 0
                false).frame
              ((s.port (.lane k)).noticed (u.merge.held != s.merge.held || (s.lane k).parkPending)).notices) ∧
        (s.merge.claims = [] → s.belt.watch = none →
          signedDistance r.due (s.belt.count + 1) = s.corner.tolerance + 1 →
          ∀ order, ∃ t : State, exec (.encoderPulse order) s = .next t ∧
            s.SessionClosed t k i (s.lane k).firmCredit (s.lane k).firmCount 0 false (s.lane k).parkPending ∧
            t.transit = rest.map (TransitRecord.detachedFrom k) ∧
            t.table.totals = { s.table.totals with
              issued := t.table.totals.issued, missing := min (s.table.totals.missing + 1) 4294967295 } ∧
            (s.port (.lane k)).AnsweredByEvent (t.port (.lane k))
              (closeResponse i (s.table.serial + 1) (s.lane k).firmCredit (s.lane k).firmCount 0 false).frame
              { ((s.port (.lane k)).noticed (t.merge.held != s.merge.held || (s.lane k).parkPending)).notices with
                credit := true } ∧
            t.bin r.bin = { s.bin r.bin with
              reserved := (s.bin r.bin).reserved - r.volume
              state := (s.bin r.bin).drained ((s.bin r.bin).reserved - r.volume) } ∧
            ∀ b, b ≠ r.bin → t.bin b = s.bin b))

/-- A claim lapse (R126, R128): the voucher enters ISSUED and loses its claimant, the LAPSE notice of the checkout link is
set, and no total, amount or stack changes.  It comes when the timebase has brought the timer to 120,000 ms; before that, as
after a CLAIM that restarted the timer (R127), the voucher does not lapse, and that the command then changes nothing is the
model's choice (log entry 6).  On a slot that is not CLAIMED there is no timer, and nothing changes. -/
def Obligations.ClaimLapse : Prop :=
  ∀ (s : State) (i : SlotId), s.isUp = true →
    (∀ v c e, s.table.slot i = .claimed v c e → e < 120000 → exec (.claimLapse i) s = .next s) ∧
    (∀ v c e, s.table.slot i = .claimed v c e → 120000 ≤ e → ∃ t : State, exec (.claimLapse i) s = .next t ∧
      t.table.slot i = .issued v ∧ (∀ j, j ≠ i → t.table.slot j = s.table.slot j) ∧
      t.port .checkout = { s.port .checkout with notices := { (s.port .checkout).notices with lapse := true } } ∧
      (∀ l, l ≠ .checkout → t.port l = s.port l) ∧
      t = { s with ports := t.ports, table := { s.table with slots := t.table.slots } }) ∧
    ((s.table.slot i).used = false → exec (.claimLapse i) s = .next s) ∧
    (∀ v, s.table.slot i = .issued v → exec (.claimLapse i) s = .next s)

/-- The two refusals of a waiting claim by an event of its lane (R43): at the expiry of its claim-wait timer it is refused
NO-SLOT (R61), and by its lane's CANCEL it is refused CANCELLED (R44, R158).  The claim leaves the set, the others keep
their order (R62), the CONTAINER is answered and is no longer in flight, and nothing else changes: no pass is made.  A
CANCEL with an END in flight is refused STATE and the END stays; with nothing in flight it is refused IDLE.  That an expiry
command sent before a timebase step has brought the timer to its limit changes nothing is the model's choice (log entry 6). -/
def Obligations.ClaimWaitExpiryAndCancel : Prop :=
  ∀ (s : State) (k : LaneId), s.isUp = true →
    ((s.claimOf k).isSome = false → exec (.claimWaitExpiry k) s = .next s) ∧
    (∀ c, s.claimOf k = some c → c.elapsed < c.limit → exec (.claimWaitExpiry k) s = .next s) ∧
    (∀ c, s.claimOf k = some c → c.limit ≤ c.elapsed → ∃ t : State, exec (.claimWaitExpiry k) s = .next t ∧
      t.merge = { s.merge with claims := s.merge.claims.filter fun c => c.lane ≠ k } ∧
      (s.port (.lane k)).AnsweredByEvent (t.port (.lane k)) (refusal .container .noSlot).frame
        (s.port (.lane k)).notices ∧
      (∀ l, l ≠ .lane k → t.port l = s.port l) ∧ t = { s with ports := t.ports, merge := t.merge }) ∧
    (s.Takes (.lane k) .cancel →
      ((s.port (.lane k)).inFlight = some .container → ∃ t : State, exec (.cancel k) s = .next t ∧
        t.merge = { s.merge with claims := s.merge.claims.filter fun c => c.lane ≠ k } ∧
        (s.port (.lane k)).Answered (t.port (.lane k)) (refusal .container .cancelled).frame none
          (s.port (.lane k)).notices ∧
        (∀ l, l ≠ .lane k → t.port l = s.port l) ∧ t = { s with ports := t.ports, merge := t.merge }) ∧
      ((s.port (.lane k)).inFlight = some .endSession → s.LinkRefuses (.cancel k) (.lane k) .cancel .state) ∧
      ((s.port (.lane k)).inFlight = none → s.LinkRefuses (.cancel k) (.lane k) .cancel .idle))

/-! ### Link Ports -/

/-- The receiver (R155): the actions of its table on a byte that completes no frame, and the expiry of its gap timer.  A byte
without its stop bit sends FRAME to HUNT and is discarded elsewhere; that the gap timer then runs on is DEDUCED (log entry
7).  A 3Fh in IDLE is the probe.  The gap timer expires when the timebase has brought it to 20 ms; that an expiry command
sent before that, or in IDLE, where there is no gap timer, changes nothing is the model's choice (log entry 6). -/
def Obligations.ReceiverTakesByte : Prop :=
  ∀ (s : State) (l : Link) (b : Byte), s.isUp = true →
    (∀ receiver : Receiver, ((s.port l).receiver = .idle ∧ b = 0xA5 ∧ receiver = .frame [] 0) ∨
        (∃ g, (s.port l).receiver = .frame [] g ∧ 1 ≤ b.toNat ∧ b.toNat ≤ 120 ∧ receiver = .frame [b] 0) ∨
        (∃ g, (s.port l).receiver = .frame [] g ∧ (b.toNat = 0 ∨ 120 < b.toNat) ∧ receiver = .hunt 0) ∨
        (∃ len bytes g, (s.port l).receiver = .frame (len :: bytes) g ∧ bytes.length < len.toNat ∧
          receiver = .frame (len :: bytes ++ [b]) 0) ∨
        (∃ g, (s.port l).receiver = .hunt g ∧ b = 0xA5 ∧ receiver = .frame [] 0) ∨
        (∃ g, (s.port l).receiver = .hunt g ∧ b ≠ 0xA5 ∧ receiver = .hunt 0) →
      ∃ t : State, exec (.byteReceived l b true) s = .next t ∧ t.port l = { s.port l with receiver := receiver } ∧
        (∀ l', l' ≠ l → t.port l' = s.port l') ∧ t = { s with ports := t.ports }) ∧
    ((s.port l).receiver = .idle → b ≠ 0xA5 → b ≠ 0x3F → exec (.byteReceived l b true) s = .next s) ∧
    (∀ bytes g, (s.port l).receiver = .frame bytes g → ∃ t : State, exec (.byteReceived l b false) s = .next t ∧
      t.port l = { s.port l with receiver := .hunt g } ∧ (∀ l', l' ≠ l → t.port l' = s.port l') ∧
      t = { s with ports := t.ports }) ∧
    ((s.port l).receiver = .idle ∨ (∃ g, (s.port l).receiver = .hunt g) →
      exec (.byteReceived l b false) s = .next s) ∧
    (¬ s.AtLimit (.gapTimerExpiry l) → exec (.gapTimerExpiry l) s = .next s) ∧
    (s.AtLimit (.gapTimerExpiry l) → ∃ t : State, exec (.gapTimerExpiry l) s = .next t ∧
      t.port l = { s.port l with receiver := .idle } ∧
      (∀ l', l' ≠ l → t.port l' = s.port l') ∧ t = { s with ports := t.ports }) ∧
    exec (.byteReceived l 0x3F true) s = exec (.probe l) s

/-- A probe taken in IDLE (R160, R161, R162, R163): the status byte of R172 is formed from the state as it stands, every
notice is cleared and so ATTN deasserted, the power flag is cleared in NORMAL and kept in HOLD-UP, and the byte is sent at
once or becomes pending; while one is pending the probe is ignored. -/
def Obligations.ProbeFormsStatusByte : Prop :=
  ∀ (s : State) (l : Link), s.isUp = true → (s.port l).receiver = .idle →
    ((s.port l).pendingStatus.isSome = true → exec (.probe l) s = .next s) ∧
    ((s.port l).pendingStatus = none → ∃ (t : State) (b : Byte), exec (.probe l) s = .next t ∧
      t.port l = { s.port l with
        notices := {}
        power := (s.port l).power && s.supply.state == .holdUp
        pendingStatus := if (s.port l).transmitter = .idle then none else some b
        transmitter := if (s.port l).transmitter = .idle then .status b else (s.port l).transmitter } ∧
      (t.port l).attn = false ∧
      (∀ l', l' ≠ l → t.port l' = s.port l') ∧ t = { s with ports := t.ports } ∧
      (∀ k, l = .lane k →
        b.getLsbD 0 = ((s.lane k).state == .parked || (s.lane k).state == .settling) ∧
        b.getLsbD 1 = ((s.lane k).state == .active || (s.lane k).state == .settling) ∧
        b.getLsbD 2 = (s.lane k).parkPending ∧ b.getLsbD 3 = s.merge.held ∧ b.getLsbD 4 = (s.port l).power ∧
        b.getLsbD 5 = ((s.port l).inFlight.isSome || !(s.port l).outQueue.isEmpty) ∧
        b.getLsbD 6 = (s.port l).notices.state ∧ b.getLsbD 7 = (s.port l).notices.credit) ∧
      (l = .checkout →
        b.getLsbD 0 = ((s.port l).inFlight.isSome || !(s.port l).outQueue.isEmpty) ∧
        b.getLsbD 1 = (s.port l).power ∧ b.getLsbD 2 = (s.port l).notices.lapse ∧ b.getLsbD 3 = false ∧
        b.getLsbD 4 = false ∧ b.getLsbD 5 = false ∧ b.getLsbD 6 = true ∧ b.getLsbD 7 = false) ∧
      (l = .office →
        b.getLsbD 0 = ((s.port l).inFlight.isSome || !(s.port l).outQueue.isEmpty) ∧
        b.getLsbD 1 = (s.port l).power ∧ b.getLsbD 2 = (s.port l).notices.bin ∧
        b.getLsbD 3 = (s.port l).notices.belt ∧ b.getLsbD 4 = (s.port l).notices.reject ∧
        b.getLsbD 5 = (s.port l).notices.supply ∧ b.getLsbD 6 = true ∧ b.getLsbD 7 = false))

/-- The tests of R156 on a completed frame, in their order, with fewer than three frames waiting: a wrong sum is refused
FRAME, a kind that is no request kind of the link KIND, a body length that the kind does not allow RANGE, and a frame that
finds a request in flight BUSY unless it is a lane's CANCEL or LANE-QUERY.  Each refusal carries the kind byte as received,
is made in both supply states, and changes nothing outside its link. -/
def Obligations.FrameTestsRefuse : Prop :=
  ∀ (s : State) (l : Link), s.isUp = true → (s.port l).outQueue.length < 3 →
    (∀ (kind : Byte) (body : List Byte) (check : Byte) (reason : Reason), body.length ≤ 119 →
      ((BitVec.ofNat 8 (body.length + 1) + kind + body.sum + check ≠ 0 ∧ reason = .frame) ∨
        (BitVec.ofNat 8 (body.length + 1) + kind + body.sum + check = 0 ∧
          (∀ k ∈ kindsOf l, k.code ≠ kind) ∧ reason = .kind) ∨
        (BitVec.ofNat 8 (body.length + 1) + kind + body.sum + check = 0 ∧
          ∃ k ∈ kindsOf l, k.code = kind ∧ k.lengthOk body.length = false ∧ reason = .range) ∨
        (BitVec.ofNat 8 (body.length + 1) + kind + body.sum + check = 0 ∧
          ∃ k ∈ kindsOf l, k.code = kind ∧ k.lengthOk body.length = true ∧ k ≠ .cancel ∧ k ≠ .laneQuery ∧
            (s.port l).inFlight.isSome = true ∧ reason = .busy)) →
      ∃ t : State, exec (.frameRefused l kind body check) s = .next t ∧ s.OnlyAnswers t l (.refuse kind reason 0) ∧
        t = { s with ports := t.ports }) ∧
    (∀ (c : Instr) (k : ReqKind) (body : List Byte), requestOf c = some (l, k, body) →
      (k.lengthOk body.length = false → s.LinkRefuses c l k .range) ∧
      (k.lengthOk body.length = true → k ≠ .cancel → k ≠ .laneQuery → (s.port l).inFlight.isSome = true →
        s.LinkRefuses c l k .busy))

/-- The end of a transmission (R159, R160): a frame sent leaves the queue, and the transmitter goes on with the pending
status byte first, then with the next frame, or becomes idle; the status byte that begins is no longer pending.  That the end
of a transmission is a command, which changes nothing where nothing of its kind is being sent, is the model's choice (log
entry 19). -/
def Obligations.TransmissionEnds : Prop :=
  ∀ (s : State) (l : Link), s.isUp = true →
    ((s.port l).transmitter = .frame → ∃ t : State, exec (.frameTransmitted l) s = .next t ∧
      (t.port l).outQueue = (s.port l).outQueue.tail ∧
      (t.port l).pendingStatus = none ∧
      (t.port l).transmitter = (match (s.port l).pendingStatus with
        | some b => .status b
        | none => if (s.port l).outQueue.length ≤ 1 then .idle else .frame) ∧
      t.port l = { s.port l with
        outQueue := (t.port l).outQueue, pendingStatus := (t.port l).pendingStatus
        transmitter := (t.port l).transmitter } ∧
      (∀ l', l' ≠ l → t.port l' = s.port l') ∧ t = { s with ports := t.ports }) ∧
    (∀ b, (s.port l).transmitter = .status b → ∃ t : State, exec (.statusByteTransmitted l) s = .next t ∧
      (t.port l).pendingStatus = none ∧
      (t.port l).transmitter = (match (s.port l).pendingStatus with
        | some b => .status b
        | none => if (s.port l).outQueue = [] then .idle else .frame) ∧
      t.port l = { s.port l with
        pendingStatus := (t.port l).pendingStatus, transmitter := (t.port l).transmitter } ∧
      (∀ l', l' ≠ l → t.port l' = s.port l') ∧ t = { s with ports := t.ports }) ∧
    ((s.port l).transmitter ≠ .frame → exec (.frameTransmitted l) s = .next s) ∧
    ((∀ b, (s.port l).transmitter ≠ .status b) → exec (.statusByteTransmitted l) s = .next s)

/-- A frame that completes while three or more frames wait in its link's output queue is discarded (R159): whatever the
request, only the receiver returns to IDLE. -/
def Obligations.FullQueueDiscards : Prop :=
  ∀ (c : Instr) (l : Link) (k : ReqKind) (body : List Byte) (s : State), requestOf c = some (l, k, body) →
    s.isUp = true → 3 ≤ (s.port l).outQueue.length →
    ∃ t : State, exec c s = .next t ∧ t.port l = { s.port l with receiver := .idle } ∧
      (∀ l', l' ≠ l → t.port l' = s.port l') ∧ t = { s with ports := t.ports } ∧
      ∀ (kind : Byte) (bytes : List Byte) (check : Byte), exec (.frameRefused l kind bytes check) s = .next t

/-- In HOLD-UP every request on every link but CORNER-STATUS is refused POWER and changes no state of its owner (R151); any
office request but TARIFF-DATA still closes an open tariff load cursor (R32). -/
def Obligations.HoldUpRefusesPower : Prop :=
  ∀ (c : Instr) (l : Link) (k : ReqKind) (body : List Byte) (s : State), requestOf c = some (l, k, body) →
    k ≠ .cornerStatus → k.lengthOk body.length = true → s.isUp = true → s.supply.state = .holdUp →
    (s.port l).outQueue.length < 3 → (s.port l).passesBusy k = true →
    ∃ t : State, exec c s = .next t ∧ s.OnlyAnswers t l (refusal k .power) ∧
      t.recog = (if l = .office ∧ k ≠ .tariffData then s.recog.closed else s.recog) ∧
      t = { s with ports := t.ports, recog := t.recog }

/-- A request sent as bytes has the effect of its command: on an idle receiver the bytes SYNC, LEN, KIND, body and CHECK of
its frame (R154, R167), taken one by one by BYTE_RECEIVED (R155), end in the state of the request command, for every request
of every link and every operand.  The order of the six bytes of a key or mask is the model's choice (log entry 22). -/
def Obligations.ByteFrameIsRequest : Prop :=
  ∀ (c : Instr) (l : Link) (k : ReqKind) (body : List Byte) (s : State), requestOf c = some (l, k, body) →
    c.wellFormed = true → (s.port l).receiver = .idle →
    ∃ t : State, exec c s = .next t ∧
      runAll ((frameOf k.code body).map fun b => Instr.byteReceived l b true) s = some t

/-! ### Lane requests -/

/-- OPEN (R40, R118): in READY with a slot on the stack the top slot is popped and becomes the session's, the money figures
are 0, the last-close record is discarded, the lane is ACTIVE and is answered OPENED; with an empty stack it is refused
TABLE-FULL, and in any other lane state STATE, and nothing else changes.  It is taken whether or not the lane is held. -/
def Obligations.OpenTakesSlot : Prop :=
  ∀ (s : State) (k : LaneId), s.Takes (.lane k) .openSession →
    (∀ i rest, (s.lane k).state = .ready → s.table.stack = i :: rest →
      ∃ t : State, exec (.openSession k) s = .next t ∧
        t.lane k = { Lane.cold with state := .active, slot := some i, parkPending := (s.lane k).parkPending } ∧
        (∀ j, j ≠ k → t.lane j = s.lane j) ∧
        s.OnlyAnswers t (.lane k) (.opened k i) ∧
        t = { s with ports := t.ports, lanes := t.lanes, table := { s.table with stack := rest } }) ∧
    ((s.lane k).state = .ready → s.table.stack = [] →
      s.LinkRefuses (.openSession k) (.lane k) .openSession .tableFull) ∧
    ((s.lane k).state ≠ .ready → s.LinkRefuses (.openSession k) (.lane k) .openSession .state)

/-- The refusals of CONTAINER (R23, R24, R41): a report out of range is refused RANGE in any lane state, a lane that is not
ACTIVE is refused STATE, and then the first failing check of Table 2-4 gives the reason (R19, R25 to R29); nothing else
changes. -/
def Obligations.ContainerRefused : Prop :=
  ∀ (s : State) (k : LaneId) (r : RawReport), s.Takes (.lane k) .container →
    ((8191 < r.weight.toNat ∨ 1 < r.keyPresent.toNat ∨ 1 < r.shapeOk.toNat) →
      s.LinkRefuses (.container k r) (.lane k) .container .range) ∧
    (r.weight.toNat ≤ 8191 → r.keyPresent.toNat ≤ 1 → r.shapeOk.toNat ≤ 1 →
      ((s.lane k).state ≠ .active → s.LinkRefuses (.container k r) (.lane k) .container .state) ∧
      ((s.lane k).state = .active →
        (r.keyPresent = 0 → s.LinkRefuses (.container k r) (.lane k) .container .noMark) ∧
        (r.keyPresent = 1 → s.NoEntryMatches r.key → s.LinkRefuses (.container k r) (.lane k) .container .unknown) ∧
        (∀ (cls : ClassId) (c : TariffClass) (reason : Reason), r.keyPresent = 1 → s.FoundClass r.key cls →
          s.recog.classes[cls] = c →
          ((c.material = 0 ∧ reason = .classOff) ∨
            (c.material ≠ 0 ∧ ¬ s.MaterialOpen k c.material ∧ reason = .materialClosed) ∨
            (c.material ≠ 0 ∧ s.MaterialOpen k c.material ∧ ¬ c.WeighsIn r.weight.toNat ∧ reason = .weight) ∨
            (c.material ≠ 0 ∧ s.MaterialOpen k c.material ∧ c.WeighsIn r.weight.toNat ∧
              ¬ c.ShapeIn (r.shapeOk == 1) ∧ reason = .shape) ∨
            (c.material ≠ 0 ∧ s.MaterialOpen k c.material ∧ c.WeighsIn r.weight.toNat ∧ c.ShapeIn (r.shapeOk == 1) ∧
              ¬ s.CreditRoom k c.deposit ∧ reason = .sessionFull) ∨
            (c.material ≠ 0 ∧ s.MaterialOpen k c.material ∧ c.WeighsIn r.weight.toNat ∧ c.ShapeIn (r.shapeOk == 1) ∧
              s.CreditRoom k c.deposit ∧ (∀ b, ¬ s.HasRoom c.material c.volume b) ∧ reason = .materialFull)) →
          s.LinkRefuses (.container k r) (.lane k) .container reason)))

/-- A CONTAINER that passes the eight checks becomes a waiting claim at the end of the set (R30, R59, R60): it carries the
class's values, its timer stands at 0 with the active claim-wait limit, its CONTAINER stays in flight with no response, and
the pass that follows may decide it in the same event. -/
def Obligations.ContainerJoins : Prop :=
  ∀ (s : State) (k : LaneId) (r : RawReport) (cls : ClassId) (c : TariffClass) (b : BinId),
    s.Takes (.lane k) .container → r.weight.toNat ≤ 8191 → r.keyPresent = 1 → r.shapeOk.toNat ≤ 1 →
    (s.lane k).state = .active → s.FoundClass r.key cls → s.recog.classes[cls] = c → c.material ≠ 0 →
    s.MaterialOpen k c.material → c.WeighsIn r.weight.toNat → c.ShapeIn (r.shapeOk == 1) → s.CreditRoom k c.deposit →
    s.HasRoom c.material c.volume b →
    ∃ u : State, exec (.container k r) s = .next u.mergePass ∧
      u.merge = { s.merge with claims := s.merge.claims ++
        [{ lane := k, cls := cls, deposit := c.deposit, material := c.material, volume := c.volume, elapsed := 0
           limit := s.corner.claimWaitLimit }] } ∧
      u.port (.lane k) = { s.port (.lane k) with receiver := .idle, inFlight := some .container } ∧
      (∀ l, l ≠ .lane k → u.port l = s.port l) ∧ u = { s with ports := u.ports, merge := u.merge }

/-- A pass decides the claims oldest first (R71), each by R72: with conditions 1 to 4 of R66 it is granted into the bin of
the fullest-first rule (R74, R103); with 1 to 3 but not 4 it leaves the set and its CONTAINER is refused MATERIAL-FULL; with
1, 2 or 3 failing it stays and nothing changes. -/
def Obligations.PassDecidesClaim : Prop :=
  ∀ (s : State) (c : Claim),
    (s.GapClear c → s.plans.active.lanes[c.lane].materials.getLsbD c.material = true →
      (∃ b, s.HasRoom c.material c.volume b) →
      ∃ b, s.Fullest c.material c.volume b ∧ s.decideClaim c = s.grant c b) ∧
    (s.GapClear c →
      (s.plans.active.lanes[c.lane].materials.getLsbD c.material = false ∨
        ∀ b, ¬ s.HasRoom c.material c.volume b) →
      (s.decideClaim c).merge = { s.merge with claims := s.merge.claims.filter fun d => d.lane ≠ c.lane } ∧
        (s.port (.lane c.lane)).AnsweredByEvent ((s.decideClaim c).port (.lane c.lane))
          (refusal .container .materialFull).frame (s.port (.lane c.lane)).notices ∧
        (∀ l, l ≠ .lane c.lane → (s.decideClaim c).port l = s.port l) ∧
        s.decideClaim c = { s with ports := (s.decideClaim c).ports, merge := (s.decideClaim c).merge }) ∧
    (¬ s.GapClear c → s.decideClaim c = s) ∧
    (s.merge.claims = [] → s.mergePass = s) ∧
    (∀ rest, s.merge.claims = c :: rest → s.mergePass = rest.foldl State.decideClaim (s.decideClaim c))

/-- A grant (R75, R76, R42, R104, R105): the claim leaves the set; a record with the lane's candidate due (R67) is inserted
after every record that is nearer (R78); merge-hold and held are evaluated; the bin's reserved fill rises by the compacted
volume and WARN is tested; the deposit moves into transit; and the CONTAINER is answered GRANT. -/
def Obligations.GrantFormsRecord : Prop :=
  ∀ (s : State) (c : Claim) (b : BinId) (r : TransitRecord),
    r = { lane := c.lane, attached := true, deposit := c.deposit, bin := b
          volume := (c.volume * (s.bin b).ratio + 15) / 16
          due := s.belt.count + BitVec.ofNat 16
            (s.plans.active.lanes[c.lane].offset + s.plans.active.lanes[c.lane].dropLead) } →
    ∃ (t : State) (pre post : List TransitRecord), t = s.grant c b ∧ s.transit = pre ++ post ∧ t.transit = pre ++ r :: post ∧
      (∀ q ∈ pre, s.ahead q < s.ahead r) ∧ (∀ q rest, post = q :: rest → s.ahead r ≤ s.ahead q) ∧
      t.merge = { claims := s.merge.claims.filter fun d => d.lane ≠ c.lane
                  mergeHold := s.merge.mergeHold || decide (s.corner.holdMark ≤ s.transit.length + 1)
                  held := t.heldCauses } ∧
      t.bin b = { s.bin b with
        reserved := (s.bin b).reserved + r.volume
        warn := (s.bin b).warn ||
          decide ((s.bin b).warningMark ≤ (s.bin b).confirmed + (s.bin b).reserved + r.volume) } ∧
      (∀ a, a ≠ b → t.bin a = s.bin a) ∧
      t.lane c.lane = { s.lane c.lane with
        transitCredit := (s.lane c.lane).transitCredit + c.deposit
        transitCount := (s.lane c.lane).transitCount + 1 } ∧
      (∀ j, j ≠ c.lane → t.lane j = s.lane j) ∧
      (s.port (.lane c.lane)).AnsweredByEvent (t.port (.lane c.lane))
        (Response.grant (b.val + 1) r.due c.cls c.deposit (s.lane c.lane).firmCredit
          ((s.lane c.lane).transitCredit + c.deposit)).frame
        ((s.port (.lane c.lane)).noticed (t.merge.held != s.merge.held)).notices ∧
      (∀ j, j ≠ c.lane → t.port (.lane j) = (s.port (.lane j)).noticed (t.merge.held != s.merge.held)) ∧
      t.port .checkout = s.port .checkout ∧
      t.port .office = (if (t.bin b).warn = (s.bin b).warn then s.port .office
        else { s.port .office with notices := { (s.port .office).notices with bin := true } }) ∧
      t = { s with ports := t.ports, lanes := t.lanes, merge := t.merge, transit := t.transit, bins := t.bins }

/-- END (R47, R48): in ACTIVE with nothing in transit the session is closed as an ordinary close and END answered in the same
event (R49, R50); with records in transit the lane enters SETTLING, its settle timer starts at 0 ms with the active limit,
and END stays in flight; in PARKED and READY it is refused STATE (in SETTLING an END is in flight, and BUSY refuses the new
one: `FrameTestsRefuse`). -/
def Obligations.EndOfSession : Prop :=
  ∀ (s : State) (k : LaneId), s.Takes (.lane k) .endSession →
    (∀ i, (s.lane k).state = .active → (s.lane k).transitCount = 0 → (s.lane k).slot = some i →
      ∃ t : State, exec (.endSession k) s = .next t ∧
        s.SessionClosed t k i (s.lane k).firmCredit (s.lane k).firmCount 0 false (s.lane k).parkPending ∧
        t.transit = s.transit.map (TransitRecord.detachedFrom k) ∧
        (s.port (.lane k)).Answered (t.port (.lane k))
          (closeResponse i (s.table.serial + 1) (s.lane k).firmCredit (s.lane k).firmCount 0 false).frame none
          ((s.port (.lane k)).noticed (s.lane k).parkPending).notices ∧
        (∀ l, l ≠ .lane k → t.port l = s.port l) ∧
        t = { s with
          ports := t.ports, lanes := t.lanes, transit := t.transit
          table := { t.table with totals := { s.table.totals with issued := t.table.totals.issued } } }) ∧
    ((s.lane k).state = .active → 0 < (s.lane k).transitCount →
      ∃ t : State, exec (.endSession k) s = .next t ∧
        t.lane k = { s.lane k with
          state := .settling, settle := some { elapsed := 0, limit := s.corner.settleLimit } } ∧
        (∀ j, j ≠ k → t.lane j = s.lane j) ∧
        t.port (.lane k) = { s.port (.lane k) with receiver := .idle, inFlight := some .endSession } ∧
        (∀ l, l ≠ .lane k → t.port l = s.port l) ∧ t = { s with ports := t.ports, lanes := t.lanes }) ∧
    ((s.lane k).state = .parked ∨ (s.lane k).state = .ready →
      s.LinkRefuses (.endSession k) (.lane k) .endSession .state)

/-! ### Checkout requests -/

/-- CLAIM with the code of a voucher (R123): an ISSUED voucher enters CLAIMED with the checkout as claimant and its lapse
timer at 0 ms; a claim by the claimant restarts the timer; another claimant's voucher is refused CLAIMED-ELSEWHERE.  No
total, stack or outstanding amount changes. -/
def Obligations.ClaimVoucher : Prop :=
  ∀ (s : State) (c : Byte) (i : SlotId) (v : Voucher), s.Takes .checkout .claim → 1 ≤ c.toNat → c.toNat ≤ 15 →
    ((s.table.slot i = .issued v ∨ ∃ e, s.table.slot i = .claimed v c.toNat e) →
      ∃ t : State, exec (.claim c (voucherCode i v.serial)) s = .next t ∧
        t.table.slot i = .claimed v c.toNat 0 ∧ (∀ j, j ≠ i → t.table.slot j = s.table.slot j) ∧
        s.OnlyAnswers t .checkout (.claimed c i v) ∧
        t = { s with ports := t.ports, table := { s.table with slots := t.table.slots } }) ∧
    (∀ d e, s.table.slot i = .claimed v d e → d ≠ c.toNat →
      s.LinkRefuses (.claim c (voucherCode i v.serial)) .checkout .claim .claimedElsewhere)

/-- REDEEM and UNCLAIM with the code of a voucher (R124, R125).  By the claimant, REDEEM frees the slot and pushes it, adds
the amount to the redeemed total and takes it from the outstanding amount, and UNCLAIM returns the voucher to ISSUED and
changes no total; by another checkout both are refused CLAIMED-ELSEWHERE, and on an ISSUED voucher NOT-CLAIMED. -/
def Obligations.RedeemAndUnclaim : Prop :=
  ∀ (s : State) (c : Byte) (i : SlotId) (v : Voucher), s.Takes .checkout .redeem → s.Takes .checkout .unclaim →
    1 ≤ c.toNat → c.toNat ≤ 15 →
    (∀ e, s.table.slot i = .claimed v c.toNat e →
      (∃ t : State, exec (.redeem c (voucherCode i v.serial)) s = .next t ∧
        t.table.slot i = .free ∧ (∀ j, j ≠ i → t.table.slot j = s.table.slot j) ∧
        s.OnlyAnswers t .checkout (.redeemed c i v.serial v.amount) ∧
        t = { s with ports := t.ports, table := { s.table with
          slots := t.table.slots, stack := i :: s.table.stack, outstanding := s.table.outstanding - v.amount
          totals := { s.table.totals with
            redeemed := min (s.table.totals.redeemed + v.amount) 4294967295 } } }) ∧
      (∃ t : State, exec (.unclaim c (voucherCode i v.serial)) s = .next t ∧
        t.table.slot i = .issued v ∧ (∀ j, j ≠ i → t.table.slot j = s.table.slot j) ∧
        s.OnlyAnswers t .checkout (.unclaimed c i v.serial) ∧
        t = { s with ports := t.ports, table := { s.table with slots := t.table.slots } })) ∧
    (∀ d e, s.table.slot i = .claimed v d e → d ≠ c.toNat →
      s.LinkRefuses (.redeem c (voucherCode i v.serial)) .checkout .redeem .claimedElsewhere ∧
      s.LinkRefuses (.unclaim c (voucherCode i v.serial)) .checkout .unclaim .claimedElsewhere) ∧
    (s.table.slot i = .issued v →
      s.LinkRefuses (.redeem c (voucherCode i v.serial)) .checkout .redeem .notClaimed ∧
      s.LinkRefuses (.unclaim c (voucherCode i v.serial)) .checkout .unclaim .notClaimed)

/-- The code tests of a checkout request, in their order, the first failure refusing it (R122): checkout 1–15, digits 0–9, the
check digit of R121 on the first seven, the slot 0–127, the slot not FREE, and its serial. -/
def Obligations.CodeTestsRefuse : Prop :=
  ∀ (s : State) (c : Byte) (code : List Byte) (cmd : Instr) (k : ReqKind) (reason : Reason), code.length = 8 →
    (cmd = .claim c code ∧ k = .claim ∨ cmd = .redeem c code ∧ k = .redeem ∨ cmd = .unclaim c code ∧ k = .unclaim) →
    s.Takes .checkout k →
    ∀ (digits : List Nat) (n : Nat), digits = code.map BitVec.toNat → n = digitsNumber (digits.take 7) →
    ((¬ (1 ≤ c.toNat ∧ c.toNat ≤ 15) ∧ reason = .range) ∨
      ((1 ≤ c.toNat ∧ c.toNat ≤ 15) ∧ (∃ d ∈ digits, 9 < d) ∧ reason = .range) ∨
      ((1 ≤ c.toNat ∧ c.toNat ≤ 15) ∧ (∀ d ∈ digits, d ≤ 9) ∧
        digits.getLast? ≠ some (checkDigit (digits.take 7)) ∧ reason = .badCode) ∨
      ((1 ≤ c.toNat ∧ c.toNat ≤ 15) ∧ (∀ d ∈ digits, d ≤ 9) ∧
        digits.getLast? = some (checkDigit (digits.take 7)) ∧ reason = .noVoucher ∧
        (128 ≤ n / 65536 ∨ ∃ i : SlotId, i.val = n / 65536 ∧
          (s.table.slot i = .free ∨
            (∃ v : Voucher, s.table.slot i = .issued v ∧ v.serial.toNat ≠ n % 65536) ∨
            ∃ v d e, s.table.slot i = .claimed v d e ∧ v.serial.toNat ≠ n % 65536)))) →
    s.LinkRefuses cmd .checkout k reason

/-- Voucher codes (R121): the code of a slot and a serial is eight decimal digits, the first seven spell N = s × 65,536 + n,
and the eighth is their check digit, formed with the weights 3 and 1 in turn from the rightmost digit; two vouchers in
different slots or with different serials have different codes; a change in any single digit of N changes the check digit,
and a swap of two adjacent digits leaves it only where they are equal or differ by 5. -/
def Obligations.VoucherCodesCheck : Prop :=
  (∀ a b c d e f g : Nat, checkDigit [a, b, c, d, e, f, g] =
    (10 - (3 * g + f + 3 * e + d + 3 * c + b + 3 * a) % 10) % 10) ∧
  (∀ (i : SlotId) (n : Serial), ∃ digits : List Nat, digits.length = 7 ∧ (∀ d ∈ digits, d ≤ 9) ∧
    digitsNumber digits = i.val * 65536 + n.toNat ∧
    voucherCode i n = (digits ++ [checkDigit digits]).map (BitVec.ofNat 8) ∧ checkDigit digits ≤ 9) ∧
  (∀ (i j : SlotId) (m n : Serial), voucherCode i m = voucherCode j n → i = j ∧ m = n) ∧
  (∀ (digits : List Nat) (p d : Nat), digits.length = 7 → (∀ x ∈ digits, x ≤ 9) → p < 7 → d ≤ 9 →
    digits[p]? ≠ some d → checkDigit (digits.set p d) ≠ checkDigit digits) ∧
  (∀ (digits : List Nat) (p x y : Nat), digits.length = 7 → (∀ z ∈ digits, z ≤ 9) → digits[p]? = some x →
    digits[p + 1]? = some y →
    (checkDigit ((digits.set p y).set (p + 1) x) = checkDigit digits ↔ x = y ∨ x + 5 = y ∨ y + 5 = x))

/-! ### Reads -/

/-- The requests that only read (R16, R21, R58, R110, R129, R132, R137): each is answered with the values as they stand when it
is taken and changes nothing but the tariff load cursor, which an office request closes (R32).  CORNER-STATUS is answered in
HOLD-UP too.  The order of the key and mask bytes of RECOG-ENTRY is the model's choice (log entry 22). -/
def Obligations.ReadRequests : Prop :=
  ∀ s : State,
    (∀ k, s.Takes (.lane k) .laneQuery → ∃ t : State, exec (.laneQuery k) s = .next t ∧
      s.OnlyAnswers t (.lane k) (.laneState
        { state := (s.lane k).state, held := s.merge.held, parkPending := (s.lane k).parkPending
          waiting := (s.claimOf k).isSome, slot := (s.lane k).slot, firmCredit := (s.lane k).firmCredit
          firmCount := (s.lane k).firmCount, provisionalCredit := s.provisionalCredit k
          provisionalCount := s.provisionalCount k, lastClose := (s.lane k).lastClose }) ∧
      t = { s with ports := t.ports }) ∧
    (s.isUp = true → (s.port .office).outQueue.length < 3 → (s.port .office).inFlight = none →
      s.OfficeReports .cornerStatus (.cornerState
        { belt := s.belt, chute := s.chute, occupancy := s.transit.length, flags := s.cornerFlags
          rejectCount := s.reject.count, binStates := [0, 1, 2, 3, 4, 5, 6].map fun b => (s.bin b).stateByte
          cause := s.supply.cause, recovered := s.supply.recovered }) ∧
      (s.supply.state = .normal →
        (∀ i : EntryId, s.OfficeReports (.recogRead (.ofNat 8 i.val)) (.recogEntry i s.recog.entries[i])) ∧
        (∀ b : Byte, 64 ≤ b.toNat → s.OfficeRefuses (.recogRead b) .recogRead .range) ∧
        (∀ c : ClassId, s.OfficeReports (.tariffRead (.ofNat 8 c.val)) (.tariffClass c s.recog.classes[c])) ∧
        (∀ b : Byte, 32 ≤ b.toNat → s.OfficeRefuses (.tariffRead b) .tariffRead .range) ∧
        s.OfficeReports (.binRead 0) (.rejectState s.reject s.corner.rejectLimit) ∧
        (∀ b : BinId, s.OfficeReports (.binRead (.ofNat 8 (b.val + 1))) (.binRecord b (s.bin b))) ∧
        (∀ b : Byte, 8 ≤ b.toNat → s.OfficeRefuses (.binRead b) .binRead .range) ∧
        (∀ i : SlotId, (s.table.slot i).used = true →
          ∃ holder, s.OfficeReports (.voucherRead (.ofNat 8 i.val)) (.voucherRecord i (s.table.slot i) holder)) ∧
        (∀ i : SlotId, s.table.slot i = .free → i ∈ s.table.stack →
          s.OfficeReports (.voucherRead (.ofNat 8 i.val)) (.voucherRecord i .free 0xFF)) ∧
        (∀ (i : SlotId) (k : LaneId), s.SlotsConserved → (s.lane k).slot = some i →
          s.OfficeReports (.voucherRead (.ofNat 8 i.val)) (.voucherRecord i .free (.ofNat 8 k.val))) ∧
        (∀ b : Byte, 128 ≤ b.toNat → s.OfficeRefuses (.voucherRead b) .voucherRead .range) ∧
        s.OfficeReports .totalsRead
          (.totals s.table.totals s.table.outstanding s.table.stack.length false) ∧
        (∀ (active : Bool) (p : Plan), p = (if active then s.plans.active else s.plans.staged) →
          s.OfficeReports (.planRead (yesNoByte active) 0) (.planGlobal active p.corner) ∧
          (∀ k : LaneId, s.OfficeReports (.planRead (yesNoByte active) (.ofNat 8 (16 + k.val)))
            (.planLane active k p.lanes[k])) ∧
          (∀ b : BinId, s.OfficeReports (.planRead (yesNoByte active) (.ofNat 8 (33 + b.val)))
            (.planBin active b p.bins[b]))) ∧
        (∀ a b : Byte, (1 < a.toNat ∨ ∀ p : PartSel, b ≠ p.byte) → s.OfficeRefuses (.planRead a b) .planRead .range)))

/-! ### Office requests -/

/-- BELT-ENABLE, BELT-STOP and JAM-CLEAR (R6, R7, R13): belt-enable or the jam state is written, running follows its four
conditions, a change of running is reported and held then formed again (R63), BELT-STATE shows the flags after the request,
and a released hold is followed by a pass.  JAM-CLEAR with the eye blocked is refused STATE.  That BELT-STATE is formed
before the pass is DEDUCED (log entry 16). -/
def Obligations.BeltRequests : Prop :=
  ∀ s : State, s.isUp = true → (s.port .office).outQueue.length < 3 → (s.port .office).inFlight = none →
    s.supply.state = .normal →
    (s.belt.eyeBlocked = true → s.OfficeRefuses .jamClear .jamClear .state) ∧
    ∀ (c : Instr) (enable jam : Bool),
      (c = .beltEnable ∧ enable = true ∧ jam = s.belt.jam ∨ c = .beltStop ∧ enable = false ∧ jam = s.belt.jam ∨
        c = .jamClear ∧ enable = s.belt.enable ∧ jam = false ∧ s.belt.eyeBlocked = false) →
      ∃ u : State, exec c s = .next (if s.merge.held = true ∧ u.merge.held = false then u.mergePass else u) ∧
        u.belt = { s.belt with
          enable := enable, jam := jam, running := enable && !s.belt.estopPressed && !jam } ∧
        u.merge = (if u.belt.running = s.belt.running then s.merge else { s.merge with held := u.heldCauses }) ∧
        (∀ k, u.port (.lane k) = (s.port (.lane k)).noticed (u.merge.held != s.merge.held)) ∧
        u.port .checkout = s.port .checkout ∧
        (s.port .office).Answered (u.port .office) (Response.beltState u.belt).frame none (s.port .office).notices ∧
        u = { s with ports := u.ports, belt := u.belt, recog := s.recog.closed, merge := u.merge }

/-- RECOG-WRITE (R20): in range, all four fields of the entry are replaced together and it is answered RECOG-ENTRY; with the
index, the class or the enable out of range it is refused RANGE and no entry changes.  The bytes of the RECOG-ENTRY frame give
key and mask in an order that is the model's choice (log entry 22). -/
def Obligations.RecogWrite : Prop :=
  ∀ (s : State) (index enable : Byte) (key mask : ArticleKey) (cls : Byte), s.Takes .office .recogWrite →
    (∀ (i : EntryId) (c : ClassId), index.toNat = i.val → cls.toNat = c.val → enable.toNat ≤ 1 →
      ∃ t : State, exec (.recogWrite index enable key mask cls) s = .next t ∧
        t.recog.entries[i] = { enable := enable == 1, key := key, mask := mask, cls := c } ∧
        (∀ j : EntryId, j ≠ i → t.recog.entries[j] = s.recog.entries[j]) ∧
        t.recog = { s.recog.closed with entries := t.recog.entries } ∧
        s.OnlyAnswers t .office (.recogEntry i { enable := enable == 1, key := key, mask := mask, cls := c }) ∧
        t = { s with ports := t.ports, recog := t.recog }) ∧
    (64 ≤ index.toNat ∨ 32 ≤ cls.toNat ∨ 1 < enable.toNat →
      s.OfficeRefuses (.recogWrite index enable key mask cls) .recogWrite .range)

/-- A tariff load (R33, R34, R35).  TARIFF-BEGIN opens the cursor at its class with no partial bytes, or is refused RANGE and
leaves it closed.  TARIFF-DATA with the cursor closed is refused STATE.  With the cursor open, the held bytes and the
frame's bytes are cut into records of ten: the record that falls on class j replaces it if every field is in range and
leaves it otherwise, records past class 31 overflow, the index advances by the records up to 32, the rest stays as partial
bytes, and TARIFF-ACK counts the records written, rejected and overflowed. -/
def Obligations.TariffLoad : Prop :=
  ∀ (s : State),
    (s.Takes .office .tariffBegin →
      (∀ c : ClassId, ∃ t : State, exec (.tariffBegin (.ofNat 8 c.val)) s = .next t ∧
        s.OnlyAnswers t .office (.tariffAck c.val 0 0 0 0) ∧
        t = { s with ports := t.ports, recog := { s.recog with cursor := some { index := c.val, bytes := [] } } }) ∧
      (∀ b : Byte, 32 ≤ b.toNat → s.OfficeRefuses (.tariffBegin b) .tariffBegin .range)) ∧
    (s.Takes .office .tariffData → ∀ bytes : List Byte, 1 ≤ bytes.length → bytes.length ≤ 112 →
      (s.recog.cursor = none → s.LinkRefuses (.tariffData bytes) .office .tariffData .state) ∧
      (∀ cursor : Cursor, s.recog.cursor = some cursor → cursor.index ≤ 32 → cursor.bytes.length ≤ 9 →
        ∀ (stream : List Byte) (n : Nat), stream = cursor.bytes ++ bytes → n = stream.length / 10 →
        ∃ (t : State) (written rejected overflowed : Nat), exec (.tariffData bytes) s = .next t ∧
          written + rejected + overflowed = n ∧ overflowed = n - (32 - cursor.index) ∧
          written = (List.range (n - overflowed)).countP (fun m =>
            (TariffClass.decode ((stream.drop (10 * m)).take 10)).isSome) ∧
          (∀ j : ClassId, ∀ m, m < n → cursor.index + m = j.val →
            t.recog.classes[j] = (TariffClass.decode ((stream.drop (10 * m)).take 10)).getD s.recog.classes[j]) ∧
          (∀ j : ClassId, (j.val < cursor.index ∨ cursor.index + n ≤ j.val) →
            t.recog.classes[j] = s.recog.classes[j]) ∧
          t.recog = { s.recog with
            classes := t.recog.classes
            cursor := some { index := min 32 (cursor.index + n), bytes := stream.drop (10 * n) } } ∧
          s.OnlyAnswers t .office
            (.tariffAck (min 32 (cursor.index + n)) written rejected overflowed (stream.length % 10)) ∧
          t = { s with ports := t.ports, recog := t.recog }))

/-- BIN-RELEASE, BIN-RETURN and REJECT-CLEAR (R107, R109, R113).  A release takes an OUT or an empty SERVING bin to RELEASED and
a SERVING bin with reservations to DRAINING with target RELEASED, and is refused STATE elsewhere; a return takes a RELEASED
bin to SERVING with confirmed fill and item count 0 and WARN clear, and is refused STATE elsewhere; each is followed by a
pass.  A chute out of 1–7 is refused RANGE.  A clear sets the reject count to 0 and at-limit to no, held is formed
again, and a released hold is followed by a pass.  R70 and R107 give the pass of a SERVING bin's
release, of a return and of a released hold; that the release of an OUT bin makes one too, and that the responses are formed
before the pass, is DEDUCED (log entry 16). -/
def Obligations.BinRequests : Prop :=
  ∀ s : State, s.isUp = true → (s.port .office).outQueue.length < 3 → (s.port .office).inFlight = none →
    s.supply.state = .normal →
    (∀ x : Byte, (x.toNat = 0 ∨ 7 < x.toNat) →
      s.OfficeRefuses (.binRelease x) .binRelease .range ∧ s.OfficeRefuses (.binReturn x) .binReturn .range) ∧
    (∀ b : BinId,
      ((s.bin b).state = .released ∨ (∃ target, (s.bin b).state = .draining target) →
        s.OfficeRefuses (.binRelease (.ofNat 8 (b.val + 1))) .binRelease .state) ∧
      ((s.bin b).state ≠ .released → s.OfficeRefuses (.binReturn (.ofNat 8 (b.val + 1))) .binReturn .state) ∧
      (∀ (c : Instr) (r : Bin) (resp : Response),
        (c = .binRelease (.ofNat 8 (b.val + 1)) ∧ resp = .releaseStarted b r ∧
            ((s.bin b).state = .out ∨ (s.bin b).state = .serving ∧ (s.bin b).reserved = 0) ∧
            r = { s.bin b with state := .released } ∨
          c = .binRelease (.ofNat 8 (b.val + 1)) ∧ resp = .releaseStarted b r ∧
            (s.bin b).state = .serving ∧ 0 < (s.bin b).reserved ∧
            r = { s.bin b with state := .draining .released } ∨
          c = .binReturn (.ofNat 8 (b.val + 1)) ∧ resp = .binRecord b r ∧ (s.bin b).state = .released ∧
            r = { s.bin b with state := .serving, confirmed := 0, items := 0, warn := false }) →
        ∃ u : State, exec c s = .next u.mergePass ∧ u.bin b = r ∧ (∀ a, a ≠ b → u.bin a = s.bin a) ∧
          s.OnlyAnswers u .office resp ∧
          u = { s with ports := u.ports, recog := s.recog.closed, bins := u.bins })) ∧
    (1 ≤ s.corner.rejectLimit →
      ∃ u : State, exec .rejectClear s = .next (if s.merge.held = true ∧ u.merge.held = false then u.mergePass else u) ∧
        u.reject = { count := 0, atLimit := false } ∧ u.merge = { s.merge with held := u.heldCauses } ∧
        (∀ k, u.port (.lane k) = (s.port (.lane k)).noticed (u.merge.held != s.merge.held)) ∧
        u.port .checkout = s.port .checkout ∧
        (s.port .office).Answered (u.port .office) (Response.rejectState u.reject s.corner.rejectLimit).frame none
          (s.port .office).notices ∧
        u = { s with ports := u.ports, recog := s.recog.closed, merge := u.merge, reject := u.reject })

/-- VOUCHER-VOID and PERIOD-CLOSE (R130, R133).  A void of an ISSUED voucher with its serial frees the slot and pushes it, adds
the amount to the voided total and takes it from the outstanding amount; with its serial on a CLAIMED voucher it is refused
STATE; on a FREE slot or with another serial NO-VOUCHER, and a slot out of range RANGE.  A period close reports the totals
with the closed flag and sets the seven of them to 0; the outstanding amount, the stack and the vouchers are kept. -/
def Obligations.VoidAndPeriodClose : Prop :=
  ∀ s : State, s.isUp = true → (s.port .office).outQueue.length < 3 → (s.port .office).inFlight = none →
    s.supply.state = .normal →
    (∀ (i : SlotId) (v : Voucher), s.table.slot i = .issued v →
      ∃ t : State, exec (.voucherVoid (.ofNat 8 i.val) v.serial) s = .next t ∧
        t.table.slot i = .free ∧ (∀ j, j ≠ i → t.table.slot j = s.table.slot j) ∧
        s.OnlyAnswers t .office (.voided i v.serial v.amount) ∧
        t = { s with ports := t.ports, recog := s.recog.closed, table := { s.table with
          slots := t.table.slots, stack := i :: s.table.stack, outstanding := s.table.outstanding - v.amount
          totals := { s.table.totals with voided := min (s.table.totals.voided + v.amount) 4294967295 } } }) ∧
    (∀ (i : SlotId) (v : Voucher) (c e : Nat), s.table.slot i = .claimed v c e →
      s.OfficeRefuses (.voucherVoid (.ofNat 8 i.val) v.serial) .voucherVoid .state) ∧
    (∀ (i : SlotId) (n : Serial), (s.table.slot i = .free ∨
        (∃ v : Voucher, s.table.slot i = .issued v ∧ v.serial ≠ n) ∨ ∃ v c e, s.table.slot i = .claimed v c e ∧ v.serial ≠ n) →
      s.OfficeRefuses (.voucherVoid (.ofNat 8 i.val) n) .voucherVoid .noVoucher) ∧
    (∀ (b : Byte) (n : Serial), 128 ≤ b.toNat → s.OfficeRefuses (.voucherVoid b n) .voucherVoid .range) ∧
    (∃ t : State, exec .periodClose s = .next t ∧
      s.OnlyAnswers t .office (.totals s.table.totals s.table.outstanding s.table.stack.length true) ∧
      t = { s with ports := t.ports, recog := s.recog.closed, table := { s.table with
        totals := { issued := 0, redeemed := 0, voided := 0, paidUnreturned := 0, confirmed := 0, strays := 0
                    missing := 0 } } })

/-- PLAN-STAGE (R136): a part whose every field is in range replaces the named part of the staged plan and is answered
PLAN-PART; a selector that names no part, a body of another part's length and a field out of range are refused RANGE; the
active plan and the rest of the staged plan stay. -/
def Obligations.PlanStage : Prop :=
  ∀ s : State, s.Takes .office .planStage →
    (∀ g : GlobalPart, g.inRange = true → ∃ t : State, exec (.planStage 0 g.raw) s = .next t ∧
      s.OnlyAnswers t .office (.planGlobal false g) ∧
      t = { s with ports := t.ports, recog := s.recog.closed
                   plans := { s.plans with staged := { s.plans.staged with corner := g } } }) ∧
    (∀ (k : LaneId) (p : LanePart), p.inRange = true →
      ∃ t : State, exec (.planStage (.ofNat 8 (16 + k.val)) p.raw) s = .next t ∧
        t.plans.staged.lanes[k] = p ∧ (∀ j : LaneId, j ≠ k → t.plans.staged.lanes[j] = s.plans.staged.lanes[j]) ∧
        s.OnlyAnswers t .office (.planLane false k p) ∧
        t = { s with ports := t.ports, recog := s.recog.closed
                     plans := { s.plans with staged := { s.plans.staged with lanes := t.plans.staged.lanes } } }) ∧
    (∀ (b : BinId) (p : BinPart), p.inRange = true →
      ∃ t : State, exec (.planStage (.ofNat 8 (33 + b.val)) p.raw) s = .next t ∧
        t.plans.staged.bins[b] = p ∧ (∀ j : BinId, j ≠ b → t.plans.staged.bins[j] = s.plans.staged.bins[j]) ∧
        s.OnlyAnswers t .office (.planBin false b p) ∧
        t = { s with ports := t.ports, recog := s.recog.closed
                     plans := { s.plans with staged := { s.plans.staged with bins := t.plans.staged.bins } } }) ∧
    (∀ (selector : Byte) (fields : RawPart),
      ¬ (selector = PartSel.corner.byte ∧ ∃ g : GlobalPart, g.inRange = true ∧ fields = g.raw) →
      ¬ (∃ k : LaneId, selector = (PartSel.lane k).byte ∧ ∃ p : LanePart, p.inRange = true ∧ fields = p.raw) →
      ¬ (∃ b : BinId, selector = (PartSel.bin b).byte ∧ ∃ p : BinPart, p.inRange = true ∧ fields = p.raw) →
      s.OfficeRefuses (.planStage selector fields) .planStage .range)

/-- A PLAN-APPLY whose checks do not all pass is refused PLAN-INVALID with the number of the first that fails, and changes
nothing else (R138, Table 8-4). -/
def Obligations.PlanApplyRefused : Prop :=
  ∀ (s : State) (n : Nat), s.Takes .office .planApply → 1 ≤ n → n ≤ 7 → (∀ m, 1 ≤ m → m < n → s.PlanCheck m) →
    ¬ s.PlanCheck n →
    ∃ t : State, exec .planApply s = .next t ∧ s.OnlyAnswers t .office (.refuse ReqKind.planApply.code .planInvalid n) ∧
      t = { s with ports := t.ports, recog := s.recog.closed }

/-- A PLAN-APPLY that passes its seven checks (R139): the staged plan becomes the active one; each lane changes by its state
and mode (R55); each bin takes its parameters (R106) and its state (R140); WARN (R105), at-limit (R112), merge-hold (R65)
and held (R63) are evaluated, with the STATE and BIN notices; then one pass is made, and PLAN-APPLIED shows what it left. -/
def Obligations.PlanApplyTaken : Prop :=
  ∀ s : State, s.Takes .office .planApply → (∀ m, 1 ≤ m → m ≤ 7 → s.PlanCheck m) →
    ∃ t u : State, exec .planApply s = .next t ∧
      u.plans = { staged := s.plans.staged, active := s.plans.staged } ∧
      (∀ k : LaneId, u.lane k = { s.lane k with
        state := (match (s.lane k).state with
          | .parked => if s.plans.staged.lanes[k].mode = .opened then .ready else .parked
          | .ready => if s.plans.staged.lanes[k].mode = .opened then .ready else .parked
          | st => st)
        parkPending := (match (s.lane k).state with
          | .parked => (s.lane k).parkPending && s.plans.staged.lanes[k].mode == .parked
          | .ready => false
          | _ => s.plans.staged.lanes[k].mode == .parked) }) ∧
      (∀ b : BinId, u.bin b = { s.bin b with
        material := s.plans.staged.bins[b].material, capacity := s.plans.staged.bins[b].capacity
        ratio := s.plans.staged.bins[b].ratio, warningMark := s.plans.staged.bins[b].warningMark
        state := (match (s.bin b).state with
          | .out => if s.plans.staged.bins[b].service = .serving then .serving else .out
          | .serving =>
            if s.plans.staged.bins[b].service = .serving then .serving
            else if (s.bin b).reserved = 0 then .out else .draining .out
          | .draining .out => if s.plans.staged.bins[b].service = .serving then .serving else .draining .out
          | st => st)
        warn := (s.bin b).warn ||
          decide (s.plans.staged.bins[b].warningMark ≤ (s.bin b).confirmed + (s.bin b).reserved) }) ∧
      u.reject = { s.reject with atLimit := decide (s.plans.staged.corner.rejectLimit ≤ s.reject.count) } ∧
      u.merge = { s.merge with
        mergeHold := if s.merge.mergeHold then decide (s.plans.staged.corner.releaseMark < s.transit.length)
          else decide (s.plans.staged.corner.holdMark ≤ s.transit.length)
        held := u.heldCauses } ∧
      (∀ k, u.port (.lane k) = (s.port (.lane k)).noticed
        (u.merge.held != s.merge.held || (u.lane k).state != (s.lane k).state ||
          (u.lane k).parkPending != (s.lane k).parkPending)) ∧
      u.port .checkout = s.port .checkout ∧
      ((u.port .office).notices.bin =
        ((s.port .office).notices.bin || (binIds.any fun b => (u.bin b).warn != (s.bin b).warn))) ∧
      u.port .office = { s.port .office with
        receiver := .idle, notices := { (s.port .office).notices with bin := (u.port .office).notices.bin } } ∧
      u = { s with
        ports := u.ports, recog := s.recog.closed, lanes := u.lanes, merge := u.merge, bins := u.bins
        reject := u.reject, plans := u.plans } ∧
      u.mergePass.OnlyAnswers t .office
        (.planApplied ([0, 1, 2, 3].map fun k => (u.mergePass.lane k).appliedByte)
          ([0, 1, 2, 3, 4, 5, 6].map fun b => (u.mergePass.bin b).stateByte) u.mergePass.merge.flags) ∧
      t = { u.mergePass with ports := t.ports }

/-! ### Layouts -/

/-- Every response frame is an envelope of R154 and R167: SYNC, LEN as the kind and body bytes, the kind, the body, and a CHECK
that makes LEN, KIND, body and CHECK sum to 0 modulo 256.  The kind codes and body lengths are those of Table 11-1, the reason
codes those of R168, and every body is laid out as R168 to R171 say, field by field, with the flag and code bytes of R169 and
R171, numbers most significant byte first and absent fields as 00h (R166).  That this byte order holds for the six bytes of a
key or mask too is the model's choice (log entry 22).  The lapse remaining of VOUCHER-RECORD is 1–12,000 steps of 10 ms
(R129, R171); that a claim whose lapse waits in the queue still shows 1 is DEDUCED (log entry 6). -/
def Obligations.FrameEnvelope : Prop :=
  (∀ r : Response, ∃ check, r.frame = [0xA5, BitVec.ofNat 8 (r.body.length + 1), r.code] ++ r.body ++ [check] ∧
    BitVec.ofNat 8 (r.body.length + 1) + r.code + r.body.sum + check = 0) ∧
  -- Table 11-1: requests
  ([ReqKind.openSession, .container, .endSession, .cancel, .laneQuery, .claim, .redeem, .unclaim, .cornerStatus,
    .beltEnable, .beltStop, .jamClear, .recogWrite, .recogRead, .tariffBegin, .tariffData, .tariffRead, .binRelease,
    .binReturn, .binRead, .rejectClear, .voucherRead, .voucherVoid, .planStage, .planRead, .planApply, .totalsRead,
    .periodClose].map ReqKind.code =
    [0x01, 0x02, 0x03, 0x04, 0x05, 0x11, 0x12, 0x13, 0x20, 0x21, 0x22, 0x23, 0x24, 0x25, 0x26, 0x27, 0x28, 0x29, 0x2A,
     0x2B, 0x2C, 0x2D, 0x2E, 0x2F, 0x30, 0x31, 0x32, 0x33]) ∧
  (∀ k, (kindsOf (.lane k)).map ReqKind.code = [0x01, 0x02, 0x03, 0x04, 0x05]) ∧
  (kindsOf .checkout).map ReqKind.code = [0x11, 0x12, 0x13] ∧
  (∀ code : Byte, code ∈ (kindsOf .office).map ReqKind.code ↔ 0x20 ≤ code.toNat ∧ code.toNat ≤ 0x33) ∧
  (∀ (k : ReqKind) (n : Nat), k.lengthOk n = true ↔ match k with
    | .container => n = 10
    | .claim | .redeem | .unclaim => n = 9
    | .recogWrite => n = 15
    | .recogRead | .tariffBegin | .tariffRead | .binRelease | .binReturn | .binRead | .voucherRead => n = 1
    | .tariffData => 1 ≤ n ∧ n ≤ 112
    | .voucherVoid => n = 3
    | .planStage => n = 14 ∨ n = 6 ∨ n = 8
    | .planRead => n = 2
    | .openSession | .endSession | .cancel | .laneQuery | .cornerStatus | .beltEnable | .beltStop | .jamClear
    | .rejectClear | .planApply | .totalsRead | .periodClose => n = 0) ∧
  -- R168: REFUSE and the reason codes
  ([Reason.frame, .kind, .range, .busy, .state, .power, .idle, .tableFull, .unknown, .classOff, .materialClosed, .weight,
    .shape, .sessionFull, .materialFull, .noMark, .noSlot, .cancelled, .badCode, .noVoucher, .claimedElsewhere,
    .notClaimed, .planInvalid].map Reason.code = (List.range 23).map fun n => BitVec.ofNat 8 (n + 1)) ∧
  (∀ kind reason detail,
    (Response.refuse kind reason detail).SentAs 0x80 3 [kind, reason.code, BitVec.ofNat 8 detail]) ∧
  -- flag and code bytes
  (∀ power recovered, HasBits (voucherFlags power recovered) [power, recovered]) ∧
  (∀ b : BeltControl, HasBits b.flags [b.enable, b.running, b.estopPressed, b.jam, b.eyeBlocked]) ∧
  (∀ s : State, HasBits s.cornerFlags
    [s.merge.mergeHold, s.merge.held, s.reject.atLimit, s.supply.state == .holdUp, s.supply.backupLow,
     s.supply.backupLost]) ∧
  (∀ m : MergeArbiter, HasBits m.flags [m.mergeHold, m.held]) ∧
  (∀ l : Lane, HasBits l.appliedByte
    [l.state == .parked || l.state == .settling, l.state == .active || l.state == .settling, l.parkPending]) ∧
  (∀ b : Bin, HasBits b.stateByte
    [b.state == .serving || b.state == .released,
     b.state == .draining .out || b.state == .draining .released || b.state == .released, b.warn,
     b.state == .draining .released]) ∧
  -- R169: lane bodies
  (∀ k i, (Response.opened k i).SentAs 0x81 2 [BitVec.ofNat 8 k.val, BitVec.ofNat 8 i.val]) ∧
  (∀ chute due cls deposit firm prov, (Response.grant chute due cls deposit firm prov).SentAs 0x82 10
    ([BitVec.ofNat 8 chute] ++ msbFirst 2 due.toNat ++ [BitVec.ofNat 8 cls.val] ++ msbFirst 2 deposit ++
      msbFirst 2 firm ++ msbFirst 2 prov)) ∧
  (∀ i serial amount count unconfirmed flags, (Response.voucher i serial amount count unconfirmed flags).SentAs 0x83 17
    ([BitVec.ofNat 8 i.val] ++ msbFirst 2 serial.toNat ++ voucherCode i serial ++ msbFirst 2 amount ++
      msbFirst 2 count ++ [BitVec.ofNat 8 unconfirmed, flags])) ∧
  (∀ count unconfirmed flags, (Response.noVoucher count unconfirmed flags).SentAs 0x84 4
    (msbFirst 2 count ++ [BitVec.ofNat 8 unconfirmed, flags])) ∧
  (∀ v : LaneView, ∃ flags : Byte,
    HasBits flags [v.held, v.parkPending, v.waiting, v.slot.isSome, v.lastClose.isSome] ∧
    (Response.laneState v).SentAs 0x85 21
      ([match v.state with | .ready => 0 | .parked => 1 | .active => 2 | .settling => 3, flags,
        match v.slot with | some i => BitVec.ofNat 8 i.val | none => 0] ++
        msbFirst 2 v.firmCredit ++ msbFirst 2 v.firmCount ++ msbFirst 2 v.provisionalCredit ++
        msbFirst 2 v.provisionalCount ++
        match v.lastClose with
        | none => List.replicate 10 0
        | some c =>
          (match c.voucher with
            | some (i, serial) => [1, BitVec.ofNat 8 i.val] ++ msbFirst 2 serial.toNat
            | none => [2, 0, 0, 0]) ++
          msbFirst 2 c.amount ++ msbFirst 2 c.count ++ [BitVec.ofNat 8 c.unconfirmed, voucherFlags c.powerClosed false])) ∧
  -- R170: checkout bodies
  (∀ c i v, (Response.claimed c i v).SentAs 0x86 10
    ([c, BitVec.ofNat 8 i.val] ++ msbFirst 2 v.serial.toNat ++ msbFirst 2 v.amount ++ msbFirst 2 v.count ++
      [BitVec.ofNat 8 v.unconfirmed, voucherFlags v.powerClosed v.recovered])) ∧
  (∀ c i serial amount, (Response.redeemed c i serial amount).SentAs 0x87 6
    ([c, BitVec.ofNat 8 i.val] ++ msbFirst 2 serial.toNat ++ msbFirst 2 amount)) ∧
  (∀ c i serial, (Response.unclaimed c i serial).SentAs 0x88 4 ([c, BitVec.ofNat 8 i.val] ++ msbFirst 2 serial.toNat)) ∧
  -- R171: office bodies
  (∀ b, (Response.beltState b).SentAs 0x89 3 ([b.flags] ++ msbFirst 2 b.count.toNat)) ∧
  (∀ v : CornerView, (Response.cornerState v).SentAs 0x8A (9 + v.binStates.length)
    ([v.belt.flags] ++ msbFirst 2 v.belt.count.toNat ++
      [BitVec.ofNat 8 v.chute.val, BitVec.ofNat 8 v.occupancy, v.flags, BitVec.ofNat 8 v.rejectCount] ++ v.binStates ++
      [match v.cause with | .cold => 0 | .supply => 1 | .pin => 2, BitVec.ofNat 8 v.recovered])) ∧
  (∀ s : State, s.cornerView.binStates.length = 7) ∧
  (∀ i e, (Response.recogEntry i e).SentAs 0x8B 15
    ([BitVec.ofNat 8 i.val, yesOrNo e.enable] ++ msbFirst 6 e.key.toNat ++ msbFirst 6 e.mask.toNat ++
      [BitVec.ofNat 8 e.cls.val])) ∧
  (∀ i w r o n, (Response.tariffAck i w r o n).SentAs 0x8C 5 ([i, w, r, o, n].map (BitVec.ofNat 8))) ∧
  (∀ c x, (Response.tariffClass c x).SentAs 0x8D 11
    ([BitVec.ofNat 8 c.val] ++ msbFirst 2 x.deposit ++ [BitVec.ofNat 8 x.material] ++ msbFirst 2 x.volume ++
      msbFirst 2 x.weightMin ++ msbFirst 2 x.weightMax ++ [yesOrNo x.shapeRequired])) ∧
  (∀ b x, (Response.releaseStarted b x).SentAs 0x8E 4 ([BitVec.ofNat 8 (b.val + 1), x.stateByte] ++ msbFirst 2 x.reserved)) ∧
  (∀ b x, (Response.binRecord b x).SentAs 0x8F 14
    ([BitVec.ofNat 8 (b.val + 1), x.stateByte, BitVec.ofNat 8 x.material] ++ msbFirst 2 x.capacity ++
      [BitVec.ofNat 8 x.ratio] ++ msbFirst 2 x.warningMark ++ msbFirst 2 x.confirmed ++ msbFirst 2 x.reserved ++
      msbFirst 2 x.items)) ∧
  (∀ r limit, (Response.rejectState r limit).SentAs 0x90 3
    [BitVec.ofNat 8 r.count, BitVec.ofNat 8 limit, yesOrNo r.atLimit]) ∧
  (∀ i holder, (Response.voucherRecord i .free holder).SentAs 0x91 23
    ([BitVec.ofNat 8 i.val, 0, holder] ++ List.replicate 20 0)) ∧
  (∀ (i : SlotId) (state : VoucherSlot) (v : Voucher) (holder code : Byte) (claim : List Byte),
    (state = .issued v ∧ code = 1 ∧ claim = [0, 0, 0] ∨
      ∃ c e, state = .claimed v c e ∧ code = 2 ∧ claim = [BitVec.ofNat 8 c] ++ msbFirst 2 (max 1 ((120000 - e) / 10))) →
    (Response.voucherRecord i state holder).SentAs 0x91 23
      ([BitVec.ofNat 8 i.val, code, 0] ++ msbFirst 2 v.serial.toNat ++ msbFirst 2 v.amount ++ msbFirst 2 v.count ++
        [BitVec.ofNat 8 v.unconfirmed, BitVec.ofNat 8 v.lane.val, voucherFlags v.powerClosed v.recovered] ++
        voucherCode i v.serial ++ claim)) ∧
  (∀ i serial amount, (Response.voided i serial amount).SentAs 0x92 5
    ([BitVec.ofNat 8 i.val] ++ msbFirst 2 serial.toNat ++ msbFirst 2 amount)) ∧
  (∀ t outstanding freeSlots closed, (Response.totals t outstanding freeSlots closed).SentAs 0x93 34
    (msbFirst 4 t.issued ++ msbFirst 4 t.redeemed ++ msbFirst 4 t.voided ++ msbFirst 4 t.paidUnreturned ++
      msbFirst 4 t.confirmed ++ msbFirst 4 t.strays ++ msbFirst 4 t.missing ++ msbFirst 4 outstanding ++
      [BitVec.ofNat 8 freeSlots, yesOrNo closed])) ∧
  (∀ active g, (Response.planGlobal active g).SentAs 0x94 15
    ([yesOrNo active, 0x00] ++ msbFirst 2 g.gap ++
      [BitVec.ofNat 8 g.tolerance, BitVec.ofNat 8 g.holdMark, BitVec.ofNat 8 g.releaseMark] ++
      msbFirst 2 g.claimWaitLimit ++ msbFirst 3 g.settleLimit ++ msbFirst 2 g.jamLength ++
      [BitVec.ofNat 8 g.rejectLimit])) ∧
  (∀ active k l, (Response.planLane active k l).SentAs 0x94 7
    ([yesOrNo active, BitVec.ofNat 8 (0x10 + k.val), match l.mode with | .parked => 0 | .opened => 1] ++
      msbFirst 2 l.offset ++ [BitVec.ofNat 8 l.dropLead, l.materials])) ∧
  (∀ active b p, (Response.planBin active b p).SentAs 0x94 9
    ([yesOrNo active, BitVec.ofNat 8 (0x21 + b.val), match p.service with | .out => 0 | .serving => 1,
      BitVec.ofNat 8 p.material] ++ msbFirst 2 p.capacity ++ [BitVec.ofNat 8 p.ratio] ++ msbFirst 2 p.warningMark)) ∧
  (∀ s : State, s.appliedResponse.SentAs 0x95 12
    (([0, 1, 2, 3].map fun k => (s.lane k).appliedByte) ++ ([0, 1, 2, 3, 4, 5, 6].map fun b => (s.bin b).stateByte) ++
      [s.merge.flags]))

/-- Encoding and decoding agree on tariff records (Table 11-2, R35) and plan parts (R136, R171): the ten bytes of a class in
range decode to it, and the part fields of a part in range, sent after their selector, are read as that part. -/
def Obligations.RecordsAndPartsRoundTrip : Prop :=
  (∀ c : TariffClass, c.inRange = true → c.encode.length = 10 ∧ TariffClass.decode c.encode = some c) ∧
  (∀ g : GlobalPart, g.inRange = true → ∀ sel : Byte,
    g.encode.length = 13 ∧ globalPartOf (rawPart (sel :: g.encode)) = some g) ∧
  (∀ l : LanePart, l.inRange = true → ∀ sel : Byte,
    l.encode.length = 5 ∧ lanePartOf (rawPart (sel :: l.encode)) = some l) ∧
  (∀ b : BinPart, b.inRange = true → ∀ sel : Byte,
    b.encode.length = 7 ∧ binPartOf (rawPart (sel :: b.encode)) = some b)

/-- Belt positions and compacted volumes as R1 and R101 define them: the signed distance from B to A is (A − B) mod 65,536, read
as that value minus 65,536 from 32,768 on, and lies in −32,768…32,767; a volume at a ratio is v × c ÷ 16 rounded up, so that
it is the least whole number of which 16 are at least v × c, and lies in 1–400. -/
def Obligations.BeltAndVolumeArithmetic : Prop :=
  (∀ a b : Count,
    ((a - b).toNat < 32768 → signedDistance b a = (a - b).toNat) ∧
    (32768 ≤ (a - b).toNat → signedDistance b a = (a - b).toNat - 65536) ∧
    -32768 ≤ signedDistance b a ∧ signedDistance b a ≤ 32767) ∧
  (∀ v c : Nat, v * c ≤ 16 * compactedVolume v c ∧ 16 * compactedVolume v c < v * c + 16 ∧
    (1 ≤ v → v ≤ 400 → 1 ≤ c → c ≤ 16 → 1 ≤ compactedVolume v c ∧ compactedVolume v c ≤ 400))

/-! ### Invariants -/

/-- Every step keeps running, held and at-limit what their causes make them (R7, R63, R112). -/
def Obligations.StepKeepsFlags : Prop :=
  ∀ s t : State, s.FlagsAgree → step s = .next t → t.FlagsAgree

/-- Every step keeps the slots in the three groups of R117, one group each, 128 in all, and the outstanding amount the sum of
the vouchers owed (R131). -/
def Obligations.StepKeepsSlotsAndOutstanding : Prop :=
  ∀ s t : State, s.SlotsConserved → s.OutstandingAgrees → step s = .next t →
    t.SlotsConserved ∧ t.OutstandingAgrees ∧ t.slotGroups = 128

/-- Every step keeps at most one claim a lane, each of an ACTIVE lane with its CONTAINER in flight (R59), END in flight
exactly in SETTLING, no other request in flight between events (R157), and room in every output queue for the response of a
request in flight (R159). -/
def Obligations.StepKeepsClaimsInFlight : Prop :=
  ∀ s t : State, s.ClaimsInFlight → s.QueuesBounded → step s = .next t → t.ClaimsInFlight ∧ t.QueuesBounded

/-- Every step keeps the three laws of R100 on every bin, and a DRAINING bin waits for a record.  The third law's second half:
no decision of a pass changes a bin that is not SERVING, and a bin that is not SERVING after a step has no more reserved
than before it. -/
def Obligations.StepKeepsBinLaws : Prop :=
  (∀ s t : State, s.BinsKeepLaws → step s = .next t →
    t.BinsKeepLaws ∧ ∀ b : BinId, (t.bin b).state ≠ .serving → (t.bin b).reserved ≤ (s.bin b).reserved) ∧
  ∀ (s : State) (c : Claim) (b : BinId), (s.bin b).state ≠ .serving → (s.decideClaim c).bin b = s.bin b

/-- Every step keeps the in-transit figures the number and the deposits of the attached records (R52) and the credit limits of
every session (R38). -/
def Obligations.StepKeepsCredit : Prop :=
  ∀ s t : State, s.ClaimsInFlight → s.TransitFiguresAgree → s.CreditLimited → step s = .next t →
    t.TransitFiguresAgree ∧ t.CreditLimited

/-- Every step keeps the active plan in range (R138), the transit queue in due order, at least a gap apart, within the reach of
R80 and at most 48 records long (R78), and merge-hold on the right side of its marks (R64, R65). -/
def Obligations.StepKeepsBeltSpaced : Prop :=
  ∀ s t : State, s.PlanInRange → s.BeltSpaced → s.MergeHoldMarked → step s = .next t →
    t.PlanInRange ∧ t.BeltSpaced ∧ t.MergeHoldMarked

/-- Every step keeps park-pending within ACTIVE and SETTLING (R54) and the settle timer within SETTLING (R48), so that no
status byte of any link is ever A5h (R160, R172). -/
def Obligations.StepKeepsStatusBytes : Prop :=
  ∀ s t : State, s.ParkPendingInSession → s.SettleTimersRun → step s = .next t →
    t.ParkPendingInSession ∧ t.SettleTimersRun ∧ ∀ l, t.statusByte l ≠ 0xA5
end

