-- ==== Sys2Proof/Laws/Bytes.lean ====
section
/-! SUPPORT. Lemmas about the byte and digit strings of Machine/Operands.lean and Machine/Responses.lean. -/

namespace Sys2Proof.Machine

/-- A number sent as `w` bytes takes `w` bytes. -/
@[simp] theorem be_length (w n : Nat) : (be w n).length = w := by
  induction w <;> simp_all [be]

/-- The bytes that the model sends of a number are those of R166. -/
theorem be_eq_msbFirst (w n : Nat) : be w n = msbFirst w n := by
  induction w with
  | zero => rfl
  | succ w ih =>
    simp only [be, ih, msbFirst, List.range_succ_eq_map, List.map_cons, List.map_map]
    congr 1
    refine List.map_congr_left fun i hi => ?_
    simp only [Function.comp, List.mem_range] at *
    congr 3
    omega

/-- The lapse remaining is in its range of R171 at every value of the timer. -/
theorem lapseRemaining_range (elapsed : Nat) : 1 ≤ lapseRemaining elapsed ∧ lapseRemaining elapsed ≤ 12000 := by
  simp only [lapseRemaining, Config.lapseLimit, Config.timebaseStep]
  omega

/-- A byte as a number of one byte. -/
@[simp] theorem beNat_one (a : Byte) : beNat [a] = a.toNat := by simp [beNat]

/-- A number of two bytes. -/
theorem beNat_two (a b : Byte) : beNat [a, b] = 256 * a.toNat + b.toNat := by
  simp [beNat]; omega

/-- A number of three bytes. -/
theorem beNat_three (a b c : Byte) : beNat [a, b, c] = 65536 * a.toNat + 256 * b.toNat + c.toNat := by
  simp [beNat]; omega

/-- A number of one byte, as sent. -/
theorem be_one (n : Nat) : be 1 n = [BitVec.ofNat 8 n] := by simp [be]

/-- A number of two bytes, as sent. -/
theorem be_two (n : Nat) : be 2 n = [BitVec.ofNat 8 (n / 256), BitVec.ofNat 8 n] := by simp [be]

/-- A number of three bytes, as sent. -/
theorem be_three (n : Nat) : be 3 n = [BitVec.ofNat 8 (n / 65536), BitVec.ofNat 8 (n / 256), BitVec.ofNat 8 n] := by
  simp [be]

/-- Two bytes spell the number that was sent. -/
theorem beNat_be_two (n : Nat) (h : n < 65536) : beNat (be 2 n) = n := by
  rw [be_two, beNat_two, BitVec.toNat_ofNat, BitVec.toNat_ofNat]; omega

/-- Three bytes spell the number that was sent. -/
theorem beNat_be_three (n : Nat) (h : n < 16777216) : beNat (be 3 n) = n := by
  rw [be_three, beNat_three, BitVec.toNat_ofNat, BitVec.toNat_ofNat, BitVec.toNat_ofNat]; omega

/-- Seven decimal digits. -/
@[simp] theorem codeDigits_length (n : Nat) : (codeDigits n).length = 7 := rfl

/-- Each of the digits of N is a decimal digit. -/
theorem codeDigits_le (n : Nat) : ∀ d ∈ codeDigits n, d ≤ 9 := by
  simp only [codeDigits, List.mem_cons, List.not_mem_nil, or_false]
  omega

/-- The digits of N spell N. -/
theorem digitsNumber_codeDigits (n : Nat) (h : n < 10000000) : digitsNumber (codeDigits n) = n := by
  have h2 : n / 100 = n / 10 / 10 := by rw [Nat.div_div_eq_div_mul]
  have h3 : n / 1000 = n / 10 / 10 / 10 := by rw [Nat.div_div_eq_div_mul, Nat.div_div_eq_div_mul]
  have h4 : n / 10000 = n / 10 / 10 / 10 / 10 := by simp only [Nat.div_div_eq_div_mul]
  have h5 : n / 100000 = n / 10 / 10 / 10 / 10 / 10 := by simp only [Nat.div_div_eq_div_mul]
  have h6 : n / 1000000 = n / 10 / 10 / 10 / 10 / 10 / 10 := by simp only [Nat.div_div_eq_div_mul]
  simp only [codeDigits, digitsNumber, List.foldl_cons, List.foldl_nil, h2, h3, h4, h5, h6]
  have h7 : n / 10 / 10 / 10 / 10 / 10 / 10 < 10 := by simp only [Nat.div_div_eq_div_mul]; omega
  clear h h2 h3 h4 h5 h6
  generalize e1 : n / 10 = a at *
  generalize e2 : a / 10 = b at *
  generalize e3 : b / 10 = c at *
  generalize e4 : c / 10 = d at *
  generalize e5 : d / 10 = e at *
  omega

end Sys2Proof.Machine
end

