-- ==== Sys2Proof/Laws/State.lean ====
section
/-! SUPPORT. For each update of the state, what it leaves as it was: one lemma a field, true by rfl and tagged simp, so that no
later proof unfolds a record update; and what reading one link, lane, bin or slot gives after one of them was replaced. -/

namespace Sys2Proof.Machine

/-! ### Reading one part after a write -/

theorem linkIndex_injective {a b : Link} (h : linkIndex a = linkIndex b) : a = b := by
  have hv := congrArg Fin.val h
  cases a <;> cases b <;> simp only [linkIndex] at hv <;> first | rfl | skip
  · rw [Fin.ext hv]
  all_goals (exfalso; simp at hv; try omega)

theorem State.port_setPort (s : State) (l m : Link) (p : LinkPort) :
    (s.setPort l p).port m = if m = l then p else s.port m := by
  unfold State.port State.setPort
  by_cases h : m = l
  · subst h; simp
  · have hne : (linkIndex l).val ≠ (linkIndex m).val := fun he => h (linkIndex_injective (Fin.ext he.symm))
    simp [h, hne]

@[simp] theorem State.port_setPort_self (s : State) (l : Link) (p : LinkPort) : (s.setPort l p).port l = p := by
  simp [State.port_setPort]

@[simp] theorem State.port_setPort_ne (s : State) {l m : Link} (h : m ≠ l) (p : LinkPort) :
    (s.setPort l p).port m = s.port m := by
  simp [State.port_setPort, h]

theorem State.lane_setLane (s : State) (k j : LaneId) (x : Lane) :
    (s.setLane k x).lane j = if j = k then x else s.lane j := by
  unfold State.lane State.setLane
  by_cases h : j = k
  · subst h; simp
  · have hne : k.val ≠ j.val := fun he => h (Fin.ext he.symm)
    simp [h, hne]

@[simp] theorem State.lane_setLane_self (s : State) (k : LaneId) (x : Lane) : (s.setLane k x).lane k = x := by
  simp [State.lane_setLane]

@[simp] theorem State.lane_setLane_ne (s : State) {k j : LaneId} (h : j ≠ k) (x : Lane) :
    (s.setLane k x).lane j = s.lane j := by
  simp [State.lane_setLane, h]

theorem State.bin_setBin (s : State) (b a : BinId) (x : Bin) :
    (s.setBin b x).bin a = if a = b then x else s.bin a := by
  unfold State.bin State.setBin
  by_cases h : a = b
  · subst h; simp
  · have hne : b.val ≠ a.val := fun he => h (Fin.ext he.symm)
    simp [h, hne]

@[simp] theorem State.bin_setBin_self (s : State) (b : BinId) (x : Bin) : (s.setBin b x).bin b = x := by
  simp [State.bin_setBin]

@[simp] theorem State.bin_setBin_ne (s : State) {b a : BinId} (h : a ≠ b) (x : Bin) :
    (s.setBin b x).bin a = s.bin a := by
  simp [State.bin_setBin, h]

theorem VoucherTable.slot_setSlot (t : VoucherTable) (i j : SlotId) (v : VoucherSlot) :
    (t.setSlot i v).slot j = if j = i then v else t.slot j := by
  unfold VoucherTable.slot VoucherTable.setSlot
  by_cases h : j = i
  · subst h; simp
  · have hne : i.val ≠ j.val := fun he => h (Fin.ext he.symm)
    simp [h, hne]

@[simp] theorem VoucherTable.slot_setSlot_self (t : VoucherTable) (i : SlotId) (v : VoucherSlot) :
    (t.setSlot i v).slot i = v := by
  simp [VoucherTable.slot_setSlot]

@[simp] theorem VoucherTable.slot_setSlot_ne (t : VoucherTable) {i j : SlotId} (h : j ≠ i) (v : VoucherSlot) :
    (t.setSlot i v).slot j = t.slot j := by
  simp [VoucherTable.slot_setSlot, h]

@[simp] theorem VoucherTable.setSlot_stack (t : VoucherTable) (i : SlotId) (v : VoucherSlot) :
    (t.setSlot i v).stack = t.stack := rfl
@[simp] theorem VoucherTable.setSlot_serial (t : VoucherTable) (i : SlotId) (v : VoucherSlot) :
    (t.setSlot i v).serial = t.serial := rfl
@[simp] theorem VoucherTable.setSlot_totals (t : VoucherTable) (i : SlotId) (v : VoucherSlot) :
    (t.setSlot i v).totals = t.totals := rfl
@[simp] theorem VoucherTable.setSlot_outstanding (t : VoucherTable) (i : SlotId) (v : VoucherSlot) :
    (t.setSlot i v).outstanding = t.outstanding := rfl
@[simp] theorem VoucherTable.push_slot (t : VoucherTable) (i j : SlotId) : (t.push i).slot j = t.slot j := rfl
@[simp] theorem VoucherTable.push_stack (t : VoucherTable) (i : SlotId) : (t.push i).stack = i :: t.stack := rfl
@[simp] theorem VoucherTable.push_serial (t : VoucherTable) (i : SlotId) : (t.push i).serial = t.serial := rfl
@[simp] theorem VoucherTable.push_totals (t : VoucherTable) (i : SlotId) : (t.push i).totals = t.totals := rfl
@[simp] theorem VoucherTable.push_outstanding (t : VoucherTable) (i : SlotId) :
    (t.push i).outstanding = t.outstanding := rfl

/-! ### Two states that read alike are equal -/

/-- Two link collections that agree at every link are equal. -/
theorem State.ports_ext {s t : State} (h : ∀ l, s.port l = t.port l) : s.ports = t.ports := by
  apply Vector.ext
  intro i hi
  have key : ∀ j : Fin 6, s.ports[j] = t.ports[j] := by
    intro j
    fin_cases j
    · exact h (.lane 0)
    · exact h (.lane 1)
    · exact h (.lane 2)
    · exact h (.lane 3)
    · exact h .checkout
    · exact h .office
  exact key ⟨i, hi⟩

/-- Two lane collections that agree at every lane are equal. -/
theorem State.lanes_ext {s t : State} (h : ∀ k, s.lane k = t.lane k) : s.lanes = t.lanes := by
  apply Vector.ext; intro i hi; exact h ⟨i, hi⟩

/-- Two bin collections that agree at every bin are equal. -/
theorem State.bins_ext {s t : State} (h : ∀ b, s.bin b = t.bin b) : s.bins = t.bins := by
  apply Vector.ext; intro i hi; exact h ⟨i, hi⟩

/-- Two slot collections that agree at every slot are equal. -/
theorem VoucherTable.slots_ext {s t : VoucherTable} (h : ∀ i, s.slot i = t.slot i) : s.slots = t.slots := by
  apply Vector.ext; intro i hi; exact h ⟨i, hi⟩

/-- Two states that agree in every field are equal. -/
theorem State.ext_fields {s t : State} (h1 : s.ports = t.ports) (h2 : s.belt = t.belt) (h3 : s.chute = t.chute)
    (h4 : s.recog = t.recog) (h5 : s.lanes = t.lanes) (h6 : s.merge = t.merge) (h7 : s.transit = t.transit)
    (h8 : s.bins = t.bins) (h9 : s.reject = t.reject) (h10 : s.table = t.table) (h11 : s.plans = t.plans)
    (h12 : s.supply = t.supply) (h13 : s.choices = t.choices) (h14 : s.pending = t.pending) : s = t := by
  cases s; cases t; simp_all

/-- Reading an entry of a mapped collection (`mapAll`). -/
@[simp] theorem getElem_mapAll {α β : Type} {n : Nat} (f : α → β) (v : Vector α n) (i : Nat) (h : i < n) :
    (mapAll f v)[i] = f v[i] := by
  simp [mapAll]

/-! ### Reading through a record update that leaves the part alone -/

@[simp] theorem State.port_mk (s : State) (l : Link)
    (v2 : BeltControl) (v3 : Fin 8) (v4 : Recognition) (v5 : Vector Lane 4) (v6 : MergeArbiter) (v7 : List TransitRecord) (v8 : Vector Bin 7) (v9 : RejectChute) (v10 : VoucherTable) (v11 : PlanUnit) (v12 : SupplyMonitor) (v13 : Nat) (v14 : List Instr) :
    (State.mk s.ports v2 v3 v4 v5 v6 v7 v8 v9 v10 v11 v12 v13 v14).port l =
      s.port l := rfl
@[simp] theorem State.lane_mk (s : State) (k : LaneId)
    (v1 : Vector LinkPort 6) (v2 : BeltControl) (v3 : Fin 8) (v4 : Recognition) (v6 : MergeArbiter) (v7 : List TransitRecord) (v8 : Vector Bin 7) (v9 : RejectChute) (v10 : VoucherTable) (v11 : PlanUnit) (v12 : SupplyMonitor) (v13 : Nat) (v14 : List Instr) :
    (State.mk v1 v2 v3 v4 s.lanes v6 v7 v8 v9 v10 v11 v12 v13 v14).lane k =
      s.lane k := rfl
@[simp] theorem State.bin_mk (s : State) (b : BinId)
    (v1 : Vector LinkPort 6) (v2 : BeltControl) (v3 : Fin 8) (v4 : Recognition) (v5 : Vector Lane 4) (v6 : MergeArbiter) (v7 : List TransitRecord) (v9 : RejectChute) (v10 : VoucherTable) (v11 : PlanUnit) (v12 : SupplyMonitor) (v13 : Nat) (v14 : List Instr) :
    (State.mk v1 v2 v3 v4 v5 v6 v7 s.bins v9 v10 v11 v12 v13 v14).bin b =
      s.bin b := rfl
@[simp] theorem State.isUp_mk (s : State) 
    (v1 : Vector LinkPort 6) (v2 : BeltControl) (v3 : Fin 8) (v4 : Recognition) (v5 : Vector Lane 4) (v6 : MergeArbiter) (v7 : List TransitRecord) (v8 : Vector Bin 7) (v9 : RejectChute) (v10 : VoucherTable) (v11 : PlanUnit) (v13 : Nat) (v14 : List Instr) :
    (State.mk v1 v2 v3 v4 v5 v6 v7 v8 v9 v10 v11 s.supply v13 v14).isUp  =
      s.isUp  := rfl
@[simp] theorem State.inHoldUp_mk (s : State) 
    (v1 : Vector LinkPort 6) (v2 : BeltControl) (v3 : Fin 8) (v4 : Recognition) (v5 : Vector Lane 4) (v6 : MergeArbiter) (v7 : List TransitRecord) (v8 : Vector Bin 7) (v9 : RejectChute) (v10 : VoucherTable) (v11 : PlanUnit) (v13 : Nat) (v14 : List Instr) :
    (State.mk v1 v2 v3 v4 v5 v6 v7 v8 v9 v10 v11 s.supply v13 v14).inHoldUp  =
      s.inHoldUp  := rfl
@[simp] theorem State.corner_mk (s : State) 
    (v1 : Vector LinkPort 6) (v2 : BeltControl) (v3 : Fin 8) (v4 : Recognition) (v5 : Vector Lane 4) (v6 : MergeArbiter) (v7 : List TransitRecord) (v8 : Vector Bin 7) (v9 : RejectChute) (v10 : VoucherTable) (v12 : SupplyMonitor) (v13 : Nat) (v14 : List Instr) :
    (State.mk v1 v2 v3 v4 v5 v6 v7 v8 v9 v10 s.plans v12 v13 v14).corner  =
      s.corner  := rfl
@[simp] theorem State.lanePart_mk (s : State) (k : LaneId)
    (v1 : Vector LinkPort 6) (v2 : BeltControl) (v3 : Fin 8) (v4 : Recognition) (v5 : Vector Lane 4) (v6 : MergeArbiter) (v7 : List TransitRecord) (v8 : Vector Bin 7) (v9 : RejectChute) (v10 : VoucherTable) (v12 : SupplyMonitor) (v13 : Nat) (v14 : List Instr) :
    (State.mk v1 v2 v3 v4 v5 v6 v7 v8 v9 v10 s.plans v12 v13 v14).lanePart k =
      s.lanePart k := rfl
@[simp] theorem State.binPart_mk (s : State) (b : BinId)
    (v1 : Vector LinkPort 6) (v2 : BeltControl) (v3 : Fin 8) (v4 : Recognition) (v5 : Vector Lane 4) (v6 : MergeArbiter) (v7 : List TransitRecord) (v8 : Vector Bin 7) (v9 : RejectChute) (v10 : VoucherTable) (v12 : SupplyMonitor) (v13 : Nat) (v14 : List Instr) :
    (State.mk v1 v2 v3 v4 v5 v6 v7 v8 v9 v10 s.plans v12 v13 v14).binPart b =
      s.binPart b := rfl
@[simp] theorem State.occupancy_mk (s : State) 
    (v1 : Vector LinkPort 6) (v2 : BeltControl) (v3 : Fin 8) (v4 : Recognition) (v5 : Vector Lane 4) (v6 : MergeArbiter) (v8 : Vector Bin 7) (v9 : RejectChute) (v10 : VoucherTable) (v11 : PlanUnit) (v12 : SupplyMonitor) (v13 : Nat) (v14 : List Instr) :
    (State.mk v1 v2 v3 v4 v5 v6 s.transit v8 v9 v10 v11 v12 v13 v14).occupancy  =
      s.occupancy  := rfl
@[simp] theorem State.claimOf_mk (s : State) (k : LaneId)
    (v1 : Vector LinkPort 6) (v2 : BeltControl) (v3 : Fin 8) (v4 : Recognition) (v5 : Vector Lane 4) (v7 : List TransitRecord) (v8 : Vector Bin 7) (v9 : RejectChute) (v10 : VoucherTable) (v11 : PlanUnit) (v12 : SupplyMonitor) (v13 : Nat) (v14 : List Instr) :
    (State.mk v1 v2 v3 v4 v5 s.merge v7 v8 v9 v10 v11 v12 v13 v14).claimOf k =
      s.claimOf k := rfl

/-! ### What each update leaves -/


@[simp] theorem State.setPort_belt (s : State) (l : Link) (p : LinkPort) : (s.setPort l p).belt = s.belt := rfl
@[simp] theorem State.setPort_chute (s : State) (l : Link) (p : LinkPort) : (s.setPort l p).chute = s.chute := rfl
@[simp] theorem State.setPort_recog (s : State) (l : Link) (p : LinkPort) : (s.setPort l p).recog = s.recog := rfl
@[simp] theorem State.setPort_lanes (s : State) (l : Link) (p : LinkPort) : (s.setPort l p).lanes = s.lanes := rfl
@[simp] theorem State.setPort_lane (s : State) (l : Link) (p : LinkPort) (k₀ : LaneId) :
    (s.setPort l p).lane k₀ = s.lane k₀ := rfl
@[simp] theorem State.setPort_merge (s : State) (l : Link) (p : LinkPort) : (s.setPort l p).merge = s.merge := rfl
@[simp] theorem State.setPort_claimOf (s : State) (l : Link) (p : LinkPort) (k₀ : LaneId) :
    (s.setPort l p).claimOf k₀ = s.claimOf k₀ := rfl
@[simp] theorem State.setPort_transit (s : State) (l : Link) (p : LinkPort) : (s.setPort l p).transit = s.transit := rfl
@[simp] theorem State.setPort_occupancy (s : State) (l : Link) (p : LinkPort) :
    (s.setPort l p).occupancy = s.occupancy := rfl
@[simp] theorem State.setPort_bins (s : State) (l : Link) (p : LinkPort) : (s.setPort l p).bins = s.bins := rfl
@[simp] theorem State.setPort_bin (s : State) (l : Link) (p : LinkPort) (b₀ : BinId) :
    (s.setPort l p).bin b₀ = s.bin b₀ := rfl
@[simp] theorem State.setPort_reject (s : State) (l : Link) (p : LinkPort) : (s.setPort l p).reject = s.reject := rfl
@[simp] theorem State.setPort_table (s : State) (l : Link) (p : LinkPort) : (s.setPort l p).table = s.table := rfl
@[simp] theorem State.setPort_plans (s : State) (l : Link) (p : LinkPort) : (s.setPort l p).plans = s.plans := rfl
@[simp] theorem State.setPort_corner (s : State) (l : Link) (p : LinkPort) :
    (s.setPort l p).corner = s.corner := rfl
@[simp] theorem State.setPort_lanePart (s : State) (l : Link) (p : LinkPort) (k₀ : LaneId) :
    (s.setPort l p).lanePart k₀ = s.lanePart k₀ := rfl
@[simp] theorem State.setPort_binPart (s : State) (l : Link) (p : LinkPort) (b₀ : BinId) :
    (s.setPort l p).binPart b₀ = s.binPart b₀ := rfl
@[simp] theorem State.setPort_supply (s : State) (l : Link) (p : LinkPort) : (s.setPort l p).supply = s.supply := rfl
@[simp] theorem State.setPort_isUp (s : State) (l : Link) (p : LinkPort) :
    (s.setPort l p).isUp = s.isUp := rfl
@[simp] theorem State.setPort_inHoldUp (s : State) (l : Link) (p : LinkPort) :
    (s.setPort l p).inHoldUp = s.inHoldUp := rfl
@[simp] theorem State.setPort_choices (s : State) (l : Link) (p : LinkPort) : (s.setPort l p).choices = s.choices := rfl
@[simp] theorem State.setPort_pending (s : State) (l : Link) (p : LinkPort) : (s.setPort l p).pending = s.pending := rfl

@[simp] theorem State.setLane_ports (s : State) (k : LaneId) (x : Lane) : (s.setLane k x).ports = s.ports := rfl
@[simp] theorem State.setLane_port (s : State) (k : LaneId) (x : Lane) (l₀ : Link) :
    (s.setLane k x).port l₀ = s.port l₀ := rfl
@[simp] theorem State.setLane_belt (s : State) (k : LaneId) (x : Lane) : (s.setLane k x).belt = s.belt := rfl
@[simp] theorem State.setLane_chute (s : State) (k : LaneId) (x : Lane) : (s.setLane k x).chute = s.chute := rfl
@[simp] theorem State.setLane_recog (s : State) (k : LaneId) (x : Lane) : (s.setLane k x).recog = s.recog := rfl
@[simp] theorem State.setLane_merge (s : State) (k : LaneId) (x : Lane) : (s.setLane k x).merge = s.merge := rfl
@[simp] theorem State.setLane_claimOf (s : State) (k : LaneId) (x : Lane) (k₀ : LaneId) :
    (s.setLane k x).claimOf k₀ = s.claimOf k₀ := rfl
@[simp] theorem State.setLane_transit (s : State) (k : LaneId) (x : Lane) : (s.setLane k x).transit = s.transit := rfl
@[simp] theorem State.setLane_occupancy (s : State) (k : LaneId) (x : Lane) :
    (s.setLane k x).occupancy = s.occupancy := rfl
@[simp] theorem State.setLane_bins (s : State) (k : LaneId) (x : Lane) : (s.setLane k x).bins = s.bins := rfl
@[simp] theorem State.setLane_bin (s : State) (k : LaneId) (x : Lane) (b₀ : BinId) :
    (s.setLane k x).bin b₀ = s.bin b₀ := rfl
@[simp] theorem State.setLane_reject (s : State) (k : LaneId) (x : Lane) : (s.setLane k x).reject = s.reject := rfl
@[simp] theorem State.setLane_table (s : State) (k : LaneId) (x : Lane) : (s.setLane k x).table = s.table := rfl
@[simp] theorem State.setLane_plans (s : State) (k : LaneId) (x : Lane) : (s.setLane k x).plans = s.plans := rfl
@[simp] theorem State.setLane_corner (s : State) (k : LaneId) (x : Lane) :
    (s.setLane k x).corner = s.corner := rfl
@[simp] theorem State.setLane_lanePart (s : State) (k : LaneId) (x : Lane) (k₀ : LaneId) :
    (s.setLane k x).lanePart k₀ = s.lanePart k₀ := rfl
@[simp] theorem State.setLane_binPart (s : State) (k : LaneId) (x : Lane) (b₀ : BinId) :
    (s.setLane k x).binPart b₀ = s.binPart b₀ := rfl
@[simp] theorem State.setLane_supply (s : State) (k : LaneId) (x : Lane) : (s.setLane k x).supply = s.supply := rfl
@[simp] theorem State.setLane_isUp (s : State) (k : LaneId) (x : Lane) :
    (s.setLane k x).isUp = s.isUp := rfl
@[simp] theorem State.setLane_inHoldUp (s : State) (k : LaneId) (x : Lane) :
    (s.setLane k x).inHoldUp = s.inHoldUp := rfl
@[simp] theorem State.setLane_choices (s : State) (k : LaneId) (x : Lane) : (s.setLane k x).choices = s.choices := rfl
@[simp] theorem State.setLane_pending (s : State) (k : LaneId) (x : Lane) : (s.setLane k x).pending = s.pending := rfl

@[simp] theorem State.setBin_ports (s : State) (b : BinId) (x : Bin) : (s.setBin b x).ports = s.ports := rfl
@[simp] theorem State.setBin_port (s : State) (b : BinId) (x : Bin) (l₀ : Link) :
    (s.setBin b x).port l₀ = s.port l₀ := rfl
@[simp] theorem State.setBin_belt (s : State) (b : BinId) (x : Bin) : (s.setBin b x).belt = s.belt := rfl
@[simp] theorem State.setBin_chute (s : State) (b : BinId) (x : Bin) : (s.setBin b x).chute = s.chute := rfl
@[simp] theorem State.setBin_recog (s : State) (b : BinId) (x : Bin) : (s.setBin b x).recog = s.recog := rfl
@[simp] theorem State.setBin_lanes (s : State) (b : BinId) (x : Bin) : (s.setBin b x).lanes = s.lanes := rfl
@[simp] theorem State.setBin_lane (s : State) (b : BinId) (x : Bin) (k₀ : LaneId) :
    (s.setBin b x).lane k₀ = s.lane k₀ := rfl
@[simp] theorem State.setBin_merge (s : State) (b : BinId) (x : Bin) : (s.setBin b x).merge = s.merge := rfl
@[simp] theorem State.setBin_claimOf (s : State) (b : BinId) (x : Bin) (k₀ : LaneId) :
    (s.setBin b x).claimOf k₀ = s.claimOf k₀ := rfl
@[simp] theorem State.setBin_transit (s : State) (b : BinId) (x : Bin) : (s.setBin b x).transit = s.transit := rfl
@[simp] theorem State.setBin_occupancy (s : State) (b : BinId) (x : Bin) :
    (s.setBin b x).occupancy = s.occupancy := rfl
@[simp] theorem State.setBin_reject (s : State) (b : BinId) (x : Bin) : (s.setBin b x).reject = s.reject := rfl
@[simp] theorem State.setBin_table (s : State) (b : BinId) (x : Bin) : (s.setBin b x).table = s.table := rfl
@[simp] theorem State.setBin_plans (s : State) (b : BinId) (x : Bin) : (s.setBin b x).plans = s.plans := rfl
@[simp] theorem State.setBin_corner (s : State) (b : BinId) (x : Bin) :
    (s.setBin b x).corner = s.corner := rfl
@[simp] theorem State.setBin_lanePart (s : State) (b : BinId) (x : Bin) (k₀ : LaneId) :
    (s.setBin b x).lanePart k₀ = s.lanePart k₀ := rfl
@[simp] theorem State.setBin_binPart (s : State) (b : BinId) (x : Bin) (b₀ : BinId) :
    (s.setBin b x).binPart b₀ = s.binPart b₀ := rfl
@[simp] theorem State.setBin_supply (s : State) (b : BinId) (x : Bin) : (s.setBin b x).supply = s.supply := rfl
@[simp] theorem State.setBin_isUp (s : State) (b : BinId) (x : Bin) :
    (s.setBin b x).isUp = s.isUp := rfl
@[simp] theorem State.setBin_inHoldUp (s : State) (b : BinId) (x : Bin) :
    (s.setBin b x).inHoldUp = s.inHoldUp := rfl
@[simp] theorem State.setBin_choices (s : State) (b : BinId) (x : Bin) : (s.setBin b x).choices = s.choices := rfl
@[simp] theorem State.setBin_pending (s : State) (b : BinId) (x : Bin) : (s.setBin b x).pending = s.pending := rfl

@[simp] theorem State.raise_belt (s : State) (l : Link) (n : Notice) : (s.raise l n).belt = s.belt := rfl
@[simp] theorem State.raise_chute (s : State) (l : Link) (n : Notice) : (s.raise l n).chute = s.chute := rfl
@[simp] theorem State.raise_recog (s : State) (l : Link) (n : Notice) : (s.raise l n).recog = s.recog := rfl
@[simp] theorem State.raise_lanes (s : State) (l : Link) (n : Notice) : (s.raise l n).lanes = s.lanes := rfl
@[simp] theorem State.raise_lane (s : State) (l : Link) (n : Notice) (k₀ : LaneId) :
    (s.raise l n).lane k₀ = s.lane k₀ := rfl
@[simp] theorem State.raise_merge (s : State) (l : Link) (n : Notice) : (s.raise l n).merge = s.merge := rfl
@[simp] theorem State.raise_claimOf (s : State) (l : Link) (n : Notice) (k₀ : LaneId) :
    (s.raise l n).claimOf k₀ = s.claimOf k₀ := rfl
@[simp] theorem State.raise_transit (s : State) (l : Link) (n : Notice) : (s.raise l n).transit = s.transit := rfl
@[simp] theorem State.raise_occupancy (s : State) (l : Link) (n : Notice) :
    (s.raise l n).occupancy = s.occupancy := rfl
@[simp] theorem State.raise_bins (s : State) (l : Link) (n : Notice) : (s.raise l n).bins = s.bins := rfl
@[simp] theorem State.raise_bin (s : State) (l : Link) (n : Notice) (b₀ : BinId) :
    (s.raise l n).bin b₀ = s.bin b₀ := rfl
@[simp] theorem State.raise_reject (s : State) (l : Link) (n : Notice) : (s.raise l n).reject = s.reject := rfl
@[simp] theorem State.raise_table (s : State) (l : Link) (n : Notice) : (s.raise l n).table = s.table := rfl
@[simp] theorem State.raise_plans (s : State) (l : Link) (n : Notice) : (s.raise l n).plans = s.plans := rfl
@[simp] theorem State.raise_corner (s : State) (l : Link) (n : Notice) :
    (s.raise l n).corner = s.corner := rfl
@[simp] theorem State.raise_lanePart (s : State) (l : Link) (n : Notice) (k₀ : LaneId) :
    (s.raise l n).lanePart k₀ = s.lanePart k₀ := rfl
@[simp] theorem State.raise_binPart (s : State) (l : Link) (n : Notice) (b₀ : BinId) :
    (s.raise l n).binPart b₀ = s.binPart b₀ := rfl
@[simp] theorem State.raise_supply (s : State) (l : Link) (n : Notice) : (s.raise l n).supply = s.supply := rfl
@[simp] theorem State.raise_isUp (s : State) (l : Link) (n : Notice) :
    (s.raise l n).isUp = s.isUp := rfl
@[simp] theorem State.raise_inHoldUp (s : State) (l : Link) (n : Notice) :
    (s.raise l n).inHoldUp = s.inHoldUp := rfl
@[simp] theorem State.raise_choices (s : State) (l : Link) (n : Notice) : (s.raise l n).choices = s.choices := rfl
@[simp] theorem State.raise_pending (s : State) (l : Link) (n : Notice) : (s.raise l n).pending = s.pending := rfl

@[simp] theorem State.respond_belt (s : State) (l : Link) (r : Response) : (s.respond l r).belt = s.belt := rfl
@[simp] theorem State.respond_chute (s : State) (l : Link) (r : Response) : (s.respond l r).chute = s.chute := rfl
@[simp] theorem State.respond_recog (s : State) (l : Link) (r : Response) : (s.respond l r).recog = s.recog := rfl
@[simp] theorem State.respond_lanes (s : State) (l : Link) (r : Response) : (s.respond l r).lanes = s.lanes := rfl
@[simp] theorem State.respond_lane (s : State) (l : Link) (r : Response) (k₀ : LaneId) :
    (s.respond l r).lane k₀ = s.lane k₀ := rfl
@[simp] theorem State.respond_merge (s : State) (l : Link) (r : Response) : (s.respond l r).merge = s.merge := rfl
@[simp] theorem State.respond_claimOf (s : State) (l : Link) (r : Response) (k₀ : LaneId) :
    (s.respond l r).claimOf k₀ = s.claimOf k₀ := rfl
@[simp] theorem State.respond_transit (s : State) (l : Link) (r : Response) : (s.respond l r).transit = s.transit := rfl
@[simp] theorem State.respond_occupancy (s : State) (l : Link) (r : Response) :
    (s.respond l r).occupancy = s.occupancy := rfl
@[simp] theorem State.respond_bins (s : State) (l : Link) (r : Response) : (s.respond l r).bins = s.bins := rfl
@[simp] theorem State.respond_bin (s : State) (l : Link) (r : Response) (b₀ : BinId) :
    (s.respond l r).bin b₀ = s.bin b₀ := rfl
@[simp] theorem State.respond_reject (s : State) (l : Link) (r : Response) : (s.respond l r).reject = s.reject := rfl
@[simp] theorem State.respond_table (s : State) (l : Link) (r : Response) : (s.respond l r).table = s.table := rfl
@[simp] theorem State.respond_plans (s : State) (l : Link) (r : Response) : (s.respond l r).plans = s.plans := rfl
@[simp] theorem State.respond_corner (s : State) (l : Link) (r : Response) :
    (s.respond l r).corner = s.corner := rfl
@[simp] theorem State.respond_lanePart (s : State) (l : Link) (r : Response) (k₀ : LaneId) :
    (s.respond l r).lanePart k₀ = s.lanePart k₀ := rfl
@[simp] theorem State.respond_binPart (s : State) (l : Link) (r : Response) (b₀ : BinId) :
    (s.respond l r).binPart b₀ = s.binPart b₀ := rfl
@[simp] theorem State.respond_supply (s : State) (l : Link) (r : Response) : (s.respond l r).supply = s.supply := rfl
@[simp] theorem State.respond_isUp (s : State) (l : Link) (r : Response) :
    (s.respond l r).isUp = s.isUp := rfl
@[simp] theorem State.respond_inHoldUp (s : State) (l : Link) (r : Response) :
    (s.respond l r).inHoldUp = s.inHoldUp := rfl
@[simp] theorem State.respond_choices (s : State) (l : Link) (r : Response) : (s.respond l r).choices = s.choices := rfl
@[simp] theorem State.respond_pending (s : State) (l : Link) (r : Response) : (s.respond l r).pending = s.pending := rfl

@[simp] theorem State.refuse_belt (s : State) (l : Link) (kind : Byte) (reason : Reason) : (s.refuse l kind reason).belt = s.belt := rfl
@[simp] theorem State.refuse_chute (s : State) (l : Link) (kind : Byte) (reason : Reason) : (s.refuse l kind reason).chute = s.chute := rfl
@[simp] theorem State.refuse_recog (s : State) (l : Link) (kind : Byte) (reason : Reason) : (s.refuse l kind reason).recog = s.recog := rfl
@[simp] theorem State.refuse_lanes (s : State) (l : Link) (kind : Byte) (reason : Reason) : (s.refuse l kind reason).lanes = s.lanes := rfl
@[simp] theorem State.refuse_lane (s : State) (l : Link) (kind : Byte) (reason : Reason) (k₀ : LaneId) :
    (s.refuse l kind reason).lane k₀ = s.lane k₀ := rfl
@[simp] theorem State.refuse_merge (s : State) (l : Link) (kind : Byte) (reason : Reason) : (s.refuse l kind reason).merge = s.merge := rfl
@[simp] theorem State.refuse_claimOf (s : State) (l : Link) (kind : Byte) (reason : Reason) (k₀ : LaneId) :
    (s.refuse l kind reason).claimOf k₀ = s.claimOf k₀ := rfl
@[simp] theorem State.refuse_transit (s : State) (l : Link) (kind : Byte) (reason : Reason) : (s.refuse l kind reason).transit = s.transit := rfl
@[simp] theorem State.refuse_occupancy (s : State) (l : Link) (kind : Byte) (reason : Reason) :
    (s.refuse l kind reason).occupancy = s.occupancy := rfl
@[simp] theorem State.refuse_bins (s : State) (l : Link) (kind : Byte) (reason : Reason) : (s.refuse l kind reason).bins = s.bins := rfl
@[simp] theorem State.refuse_bin (s : State) (l : Link) (kind : Byte) (reason : Reason) (b₀ : BinId) :
    (s.refuse l kind reason).bin b₀ = s.bin b₀ := rfl
@[simp] theorem State.refuse_reject (s : State) (l : Link) (kind : Byte) (reason : Reason) : (s.refuse l kind reason).reject = s.reject := rfl
@[simp] theorem State.refuse_table (s : State) (l : Link) (kind : Byte) (reason : Reason) : (s.refuse l kind reason).table = s.table := rfl
@[simp] theorem State.refuse_plans (s : State) (l : Link) (kind : Byte) (reason : Reason) : (s.refuse l kind reason).plans = s.plans := rfl
@[simp] theorem State.refuse_corner (s : State) (l : Link) (kind : Byte) (reason : Reason) :
    (s.refuse l kind reason).corner = s.corner := rfl
@[simp] theorem State.refuse_lanePart (s : State) (l : Link) (kind : Byte) (reason : Reason) (k₀ : LaneId) :
    (s.refuse l kind reason).lanePart k₀ = s.lanePart k₀ := rfl
@[simp] theorem State.refuse_binPart (s : State) (l : Link) (kind : Byte) (reason : Reason) (b₀ : BinId) :
    (s.refuse l kind reason).binPart b₀ = s.binPart b₀ := rfl
@[simp] theorem State.refuse_supply (s : State) (l : Link) (kind : Byte) (reason : Reason) : (s.refuse l kind reason).supply = s.supply := rfl
@[simp] theorem State.refuse_isUp (s : State) (l : Link) (kind : Byte) (reason : Reason) :
    (s.refuse l kind reason).isUp = s.isUp := rfl
@[simp] theorem State.refuse_inHoldUp (s : State) (l : Link) (kind : Byte) (reason : Reason) :
    (s.refuse l kind reason).inHoldUp = s.inHoldUp := rfl
@[simp] theorem State.refuse_choices (s : State) (l : Link) (kind : Byte) (reason : Reason) : (s.refuse l kind reason).choices = s.choices := rfl
@[simp] theorem State.refuse_pending (s : State) (l : Link) (kind : Byte) (reason : Reason) : (s.refuse l kind reason).pending = s.pending := rfl

@[simp] theorem State.answer_belt (s : State) (l : Link) (r : Response) : (s.answer l r).belt = s.belt := rfl
@[simp] theorem State.answer_chute (s : State) (l : Link) (r : Response) : (s.answer l r).chute = s.chute := rfl
@[simp] theorem State.answer_recog (s : State) (l : Link) (r : Response) : (s.answer l r).recog = s.recog := rfl
@[simp] theorem State.answer_lanes (s : State) (l : Link) (r : Response) : (s.answer l r).lanes = s.lanes := rfl
@[simp] theorem State.answer_lane (s : State) (l : Link) (r : Response) (k₀ : LaneId) :
    (s.answer l r).lane k₀ = s.lane k₀ := rfl
@[simp] theorem State.answer_merge (s : State) (l : Link) (r : Response) : (s.answer l r).merge = s.merge := rfl
@[simp] theorem State.answer_claimOf (s : State) (l : Link) (r : Response) (k₀ : LaneId) :
    (s.answer l r).claimOf k₀ = s.claimOf k₀ := rfl
@[simp] theorem State.answer_transit (s : State) (l : Link) (r : Response) : (s.answer l r).transit = s.transit := rfl
@[simp] theorem State.answer_occupancy (s : State) (l : Link) (r : Response) :
    (s.answer l r).occupancy = s.occupancy := rfl
@[simp] theorem State.answer_bins (s : State) (l : Link) (r : Response) : (s.answer l r).bins = s.bins := rfl
@[simp] theorem State.answer_bin (s : State) (l : Link) (r : Response) (b₀ : BinId) :
    (s.answer l r).bin b₀ = s.bin b₀ := rfl
@[simp] theorem State.answer_reject (s : State) (l : Link) (r : Response) : (s.answer l r).reject = s.reject := rfl
@[simp] theorem State.answer_table (s : State) (l : Link) (r : Response) : (s.answer l r).table = s.table := rfl
@[simp] theorem State.answer_plans (s : State) (l : Link) (r : Response) : (s.answer l r).plans = s.plans := rfl
@[simp] theorem State.answer_corner (s : State) (l : Link) (r : Response) :
    (s.answer l r).corner = s.corner := rfl
@[simp] theorem State.answer_lanePart (s : State) (l : Link) (r : Response) (k₀ : LaneId) :
    (s.answer l r).lanePart k₀ = s.lanePart k₀ := rfl
@[simp] theorem State.answer_binPart (s : State) (l : Link) (r : Response) (b₀ : BinId) :
    (s.answer l r).binPart b₀ = s.binPart b₀ := rfl
@[simp] theorem State.answer_supply (s : State) (l : Link) (r : Response) : (s.answer l r).supply = s.supply := rfl
@[simp] theorem State.answer_isUp (s : State) (l : Link) (r : Response) :
    (s.answer l r).isUp = s.isUp := rfl
@[simp] theorem State.answer_inHoldUp (s : State) (l : Link) (r : Response) :
    (s.answer l r).inHoldUp = s.inHoldUp := rfl
@[simp] theorem State.answer_choices (s : State) (l : Link) (r : Response) : (s.answer l r).choices = s.choices := rfl
@[simp] theorem State.answer_pending (s : State) (l : Link) (r : Response) : (s.answer l r).pending = s.pending := rfl

@[simp] theorem State.keepInFlight_belt (s : State) (l : Link) (k : ReqKind) : (s.keepInFlight l k).belt = s.belt := rfl
@[simp] theorem State.keepInFlight_chute (s : State) (l : Link) (k : ReqKind) : (s.keepInFlight l k).chute = s.chute := rfl
@[simp] theorem State.keepInFlight_recog (s : State) (l : Link) (k : ReqKind) : (s.keepInFlight l k).recog = s.recog := rfl
@[simp] theorem State.keepInFlight_lanes (s : State) (l : Link) (k : ReqKind) : (s.keepInFlight l k).lanes = s.lanes := rfl
@[simp] theorem State.keepInFlight_lane (s : State) (l : Link) (k : ReqKind) (k₀ : LaneId) :
    (s.keepInFlight l k).lane k₀ = s.lane k₀ := rfl
@[simp] theorem State.keepInFlight_merge (s : State) (l : Link) (k : ReqKind) : (s.keepInFlight l k).merge = s.merge := rfl
@[simp] theorem State.keepInFlight_claimOf (s : State) (l : Link) (k : ReqKind) (k₀ : LaneId) :
    (s.keepInFlight l k).claimOf k₀ = s.claimOf k₀ := rfl
@[simp] theorem State.keepInFlight_transit (s : State) (l : Link) (k : ReqKind) : (s.keepInFlight l k).transit = s.transit := rfl
@[simp] theorem State.keepInFlight_occupancy (s : State) (l : Link) (k : ReqKind) :
    (s.keepInFlight l k).occupancy = s.occupancy := rfl
@[simp] theorem State.keepInFlight_bins (s : State) (l : Link) (k : ReqKind) : (s.keepInFlight l k).bins = s.bins := rfl
@[simp] theorem State.keepInFlight_bin (s : State) (l : Link) (k : ReqKind) (b₀ : BinId) :
    (s.keepInFlight l k).bin b₀ = s.bin b₀ := rfl
@[simp] theorem State.keepInFlight_reject (s : State) (l : Link) (k : ReqKind) : (s.keepInFlight l k).reject = s.reject := rfl
@[simp] theorem State.keepInFlight_table (s : State) (l : Link) (k : ReqKind) : (s.keepInFlight l k).table = s.table := rfl
@[simp] theorem State.keepInFlight_plans (s : State) (l : Link) (k : ReqKind) : (s.keepInFlight l k).plans = s.plans := rfl
@[simp] theorem State.keepInFlight_corner (s : State) (l : Link) (k : ReqKind) :
    (s.keepInFlight l k).corner = s.corner := rfl
@[simp] theorem State.keepInFlight_lanePart (s : State) (l : Link) (k : ReqKind) (k₀ : LaneId) :
    (s.keepInFlight l k).lanePart k₀ = s.lanePart k₀ := rfl
@[simp] theorem State.keepInFlight_binPart (s : State) (l : Link) (k : ReqKind) (b₀ : BinId) :
    (s.keepInFlight l k).binPart b₀ = s.binPart b₀ := rfl
@[simp] theorem State.keepInFlight_supply (s : State) (l : Link) (k : ReqKind) : (s.keepInFlight l k).supply = s.supply := rfl
@[simp] theorem State.keepInFlight_isUp (s : State) (l : Link) (k : ReqKind) :
    (s.keepInFlight l k).isUp = s.isUp := rfl
@[simp] theorem State.keepInFlight_inHoldUp (s : State) (l : Link) (k : ReqKind) :
    (s.keepInFlight l k).inHoldUp = s.inHoldUp := rfl
@[simp] theorem State.keepInFlight_choices (s : State) (l : Link) (k : ReqKind) : (s.keepInFlight l k).choices = s.choices := rfl
@[simp] theorem State.keepInFlight_pending (s : State) (l : Link) (k : ReqKind) : (s.keepInFlight l k).pending = s.pending := rfl

@[simp] theorem State.setReceiver_belt (s : State) (l : Link) (r : Receiver) : (s.setReceiver l r).belt = s.belt := rfl
@[simp] theorem State.setReceiver_chute (s : State) (l : Link) (r : Receiver) : (s.setReceiver l r).chute = s.chute := rfl
@[simp] theorem State.setReceiver_recog (s : State) (l : Link) (r : Receiver) : (s.setReceiver l r).recog = s.recog := rfl
@[simp] theorem State.setReceiver_lanes (s : State) (l : Link) (r : Receiver) : (s.setReceiver l r).lanes = s.lanes := rfl
@[simp] theorem State.setReceiver_lane (s : State) (l : Link) (r : Receiver) (k₀ : LaneId) :
    (s.setReceiver l r).lane k₀ = s.lane k₀ := rfl
@[simp] theorem State.setReceiver_merge (s : State) (l : Link) (r : Receiver) : (s.setReceiver l r).merge = s.merge := rfl
@[simp] theorem State.setReceiver_claimOf (s : State) (l : Link) (r : Receiver) (k₀ : LaneId) :
    (s.setReceiver l r).claimOf k₀ = s.claimOf k₀ := rfl
@[simp] theorem State.setReceiver_transit (s : State) (l : Link) (r : Receiver) : (s.setReceiver l r).transit = s.transit := rfl
@[simp] theorem State.setReceiver_occupancy (s : State) (l : Link) (r : Receiver) :
    (s.setReceiver l r).occupancy = s.occupancy := rfl
@[simp] theorem State.setReceiver_bins (s : State) (l : Link) (r : Receiver) : (s.setReceiver l r).bins = s.bins := rfl
@[simp] theorem State.setReceiver_bin (s : State) (l : Link) (r : Receiver) (b₀ : BinId) :
    (s.setReceiver l r).bin b₀ = s.bin b₀ := rfl
@[simp] theorem State.setReceiver_reject (s : State) (l : Link) (r : Receiver) : (s.setReceiver l r).reject = s.reject := rfl
@[simp] theorem State.setReceiver_table (s : State) (l : Link) (r : Receiver) : (s.setReceiver l r).table = s.table := rfl
@[simp] theorem State.setReceiver_plans (s : State) (l : Link) (r : Receiver) : (s.setReceiver l r).plans = s.plans := rfl
@[simp] theorem State.setReceiver_corner (s : State) (l : Link) (r : Receiver) :
    (s.setReceiver l r).corner = s.corner := rfl
@[simp] theorem State.setReceiver_lanePart (s : State) (l : Link) (r : Receiver) (k₀ : LaneId) :
    (s.setReceiver l r).lanePart k₀ = s.lanePart k₀ := rfl
@[simp] theorem State.setReceiver_binPart (s : State) (l : Link) (r : Receiver) (b₀ : BinId) :
    (s.setReceiver l r).binPart b₀ = s.binPart b₀ := rfl
@[simp] theorem State.setReceiver_supply (s : State) (l : Link) (r : Receiver) : (s.setReceiver l r).supply = s.supply := rfl
@[simp] theorem State.setReceiver_isUp (s : State) (l : Link) (r : Receiver) :
    (s.setReceiver l r).isUp = s.isUp := rfl
@[simp] theorem State.setReceiver_inHoldUp (s : State) (l : Link) (r : Receiver) :
    (s.setReceiver l r).inHoldUp = s.inHoldUp := rfl
@[simp] theorem State.setReceiver_choices (s : State) (l : Link) (r : Receiver) : (s.setReceiver l r).choices = s.choices := rfl
@[simp] theorem State.setReceiver_pending (s : State) (l : Link) (r : Receiver) : (s.setReceiver l r).pending = s.pending := rfl

@[simp] theorem State.setMergeHold_ports (s : State) (h : Bool) : (s.setMergeHold h).ports = s.ports := rfl
@[simp] theorem State.setMergeHold_port (s : State) (h : Bool) (l₀ : Link) :
    (s.setMergeHold h).port l₀ = s.port l₀ := rfl
@[simp] theorem State.setMergeHold_belt (s : State) (h : Bool) : (s.setMergeHold h).belt = s.belt := rfl
@[simp] theorem State.setMergeHold_chute (s : State) (h : Bool) : (s.setMergeHold h).chute = s.chute := rfl
@[simp] theorem State.setMergeHold_recog (s : State) (h : Bool) : (s.setMergeHold h).recog = s.recog := rfl
@[simp] theorem State.setMergeHold_lanes (s : State) (h : Bool) : (s.setMergeHold h).lanes = s.lanes := rfl
@[simp] theorem State.setMergeHold_lane (s : State) (h : Bool) (k₀ : LaneId) :
    (s.setMergeHold h).lane k₀ = s.lane k₀ := rfl
@[simp] theorem State.setMergeHold_transit (s : State) (h : Bool) : (s.setMergeHold h).transit = s.transit := rfl
@[simp] theorem State.setMergeHold_occupancy (s : State) (h : Bool) :
    (s.setMergeHold h).occupancy = s.occupancy := rfl
@[simp] theorem State.setMergeHold_bins (s : State) (h : Bool) : (s.setMergeHold h).bins = s.bins := rfl
@[simp] theorem State.setMergeHold_bin (s : State) (h : Bool) (b₀ : BinId) :
    (s.setMergeHold h).bin b₀ = s.bin b₀ := rfl
@[simp] theorem State.setMergeHold_reject (s : State) (h : Bool) : (s.setMergeHold h).reject = s.reject := rfl
@[simp] theorem State.setMergeHold_table (s : State) (h : Bool) : (s.setMergeHold h).table = s.table := rfl
@[simp] theorem State.setMergeHold_plans (s : State) (h : Bool) : (s.setMergeHold h).plans = s.plans := rfl
@[simp] theorem State.setMergeHold_corner (s : State) (h : Bool) :
    (s.setMergeHold h).corner = s.corner := rfl
@[simp] theorem State.setMergeHold_lanePart (s : State) (h : Bool) (k₀ : LaneId) :
    (s.setMergeHold h).lanePart k₀ = s.lanePart k₀ := rfl
@[simp] theorem State.setMergeHold_binPart (s : State) (h : Bool) (b₀ : BinId) :
    (s.setMergeHold h).binPart b₀ = s.binPart b₀ := rfl
@[simp] theorem State.setMergeHold_supply (s : State) (h : Bool) : (s.setMergeHold h).supply = s.supply := rfl
@[simp] theorem State.setMergeHold_isUp (s : State) (h : Bool) :
    (s.setMergeHold h).isUp = s.isUp := rfl
@[simp] theorem State.setMergeHold_inHoldUp (s : State) (h : Bool) :
    (s.setMergeHold h).inHoldUp = s.inHoldUp := rfl
@[simp] theorem State.setMergeHold_choices (s : State) (h : Bool) : (s.setMergeHold h).choices = s.choices := rfl
@[simp] theorem State.setMergeHold_pending (s : State) (h : Bool) : (s.setMergeHold h).pending = s.pending := rfl

@[simp] theorem State.evalAtLimit_ports (s : State) : (s.evalAtLimit).ports = s.ports := rfl
@[simp] theorem State.evalAtLimit_port (s : State) (l₀ : Link) :
    (s.evalAtLimit).port l₀ = s.port l₀ := rfl
@[simp] theorem State.evalAtLimit_belt (s : State) : (s.evalAtLimit).belt = s.belt := rfl
@[simp] theorem State.evalAtLimit_chute (s : State) : (s.evalAtLimit).chute = s.chute := rfl
@[simp] theorem State.evalAtLimit_recog (s : State) : (s.evalAtLimit).recog = s.recog := rfl
@[simp] theorem State.evalAtLimit_lanes (s : State) : (s.evalAtLimit).lanes = s.lanes := rfl
@[simp] theorem State.evalAtLimit_lane (s : State) (k₀ : LaneId) :
    (s.evalAtLimit).lane k₀ = s.lane k₀ := rfl
@[simp] theorem State.evalAtLimit_merge (s : State) : (s.evalAtLimit).merge = s.merge := rfl
@[simp] theorem State.evalAtLimit_claimOf (s : State) (k₀ : LaneId) :
    (s.evalAtLimit).claimOf k₀ = s.claimOf k₀ := rfl
@[simp] theorem State.evalAtLimit_transit (s : State) : (s.evalAtLimit).transit = s.transit := rfl
@[simp] theorem State.evalAtLimit_occupancy (s : State) :
    (s.evalAtLimit).occupancy = s.occupancy := rfl
@[simp] theorem State.evalAtLimit_bins (s : State) : (s.evalAtLimit).bins = s.bins := rfl
@[simp] theorem State.evalAtLimit_bin (s : State) (b₀ : BinId) :
    (s.evalAtLimit).bin b₀ = s.bin b₀ := rfl
@[simp] theorem State.evalAtLimit_table (s : State) : (s.evalAtLimit).table = s.table := rfl
@[simp] theorem State.evalAtLimit_plans (s : State) : (s.evalAtLimit).plans = s.plans := rfl
@[simp] theorem State.evalAtLimit_corner (s : State) :
    (s.evalAtLimit).corner = s.corner := rfl
@[simp] theorem State.evalAtLimit_lanePart (s : State) (k₀ : LaneId) :
    (s.evalAtLimit).lanePart k₀ = s.lanePart k₀ := rfl
@[simp] theorem State.evalAtLimit_binPart (s : State) (b₀ : BinId) :
    (s.evalAtLimit).binPart b₀ = s.binPart b₀ := rfl
@[simp] theorem State.evalAtLimit_supply (s : State) : (s.evalAtLimit).supply = s.supply := rfl
@[simp] theorem State.evalAtLimit_isUp (s : State) :
    (s.evalAtLimit).isUp = s.isUp := rfl
@[simp] theorem State.evalAtLimit_inHoldUp (s : State) :
    (s.evalAtLimit).inHoldUp = s.inHoldUp := rfl
@[simp] theorem State.evalAtLimit_choices (s : State) : (s.evalAtLimit).choices = s.choices := rfl
@[simp] theorem State.evalAtLimit_pending (s : State) : (s.evalAtLimit).pending = s.pending := rfl

@[simp] theorem State.closeCursor_ports (s : State) : (s.closeCursor).ports = s.ports := rfl
@[simp] theorem State.closeCursor_port (s : State) (l₀ : Link) :
    (s.closeCursor).port l₀ = s.port l₀ := rfl
@[simp] theorem State.closeCursor_belt (s : State) : (s.closeCursor).belt = s.belt := rfl
@[simp] theorem State.closeCursor_chute (s : State) : (s.closeCursor).chute = s.chute := rfl
@[simp] theorem State.closeCursor_lanes (s : State) : (s.closeCursor).lanes = s.lanes := rfl
@[simp] theorem State.closeCursor_lane (s : State) (k₀ : LaneId) :
    (s.closeCursor).lane k₀ = s.lane k₀ := rfl
@[simp] theorem State.closeCursor_merge (s : State) : (s.closeCursor).merge = s.merge := rfl
@[simp] theorem State.closeCursor_claimOf (s : State) (k₀ : LaneId) :
    (s.closeCursor).claimOf k₀ = s.claimOf k₀ := rfl
@[simp] theorem State.closeCursor_transit (s : State) : (s.closeCursor).transit = s.transit := rfl
@[simp] theorem State.closeCursor_occupancy (s : State) :
    (s.closeCursor).occupancy = s.occupancy := rfl
@[simp] theorem State.closeCursor_bins (s : State) : (s.closeCursor).bins = s.bins := rfl
@[simp] theorem State.closeCursor_bin (s : State) (b₀ : BinId) :
    (s.closeCursor).bin b₀ = s.bin b₀ := rfl
@[simp] theorem State.closeCursor_reject (s : State) : (s.closeCursor).reject = s.reject := rfl
@[simp] theorem State.closeCursor_table (s : State) : (s.closeCursor).table = s.table := rfl
@[simp] theorem State.closeCursor_plans (s : State) : (s.closeCursor).plans = s.plans := rfl
@[simp] theorem State.closeCursor_corner (s : State) :
    (s.closeCursor).corner = s.corner := rfl
@[simp] theorem State.closeCursor_lanePart (s : State) (k₀ : LaneId) :
    (s.closeCursor).lanePart k₀ = s.lanePart k₀ := rfl
@[simp] theorem State.closeCursor_binPart (s : State) (b₀ : BinId) :
    (s.closeCursor).binPart b₀ = s.binPart b₀ := rfl
@[simp] theorem State.closeCursor_supply (s : State) : (s.closeCursor).supply = s.supply := rfl
@[simp] theorem State.closeCursor_isUp (s : State) :
    (s.closeCursor).isUp = s.isUp := rfl
@[simp] theorem State.closeCursor_inHoldUp (s : State) :
    (s.closeCursor).inHoldUp = s.inHoldUp := rfl
@[simp] theorem State.closeCursor_choices (s : State) : (s.closeCursor).choices = s.choices := rfl
@[simp] theorem State.closeCursor_pending (s : State) : (s.closeCursor).pending = s.pending := rfl

@[simp] theorem State.dropClaim_ports (s : State) (k : LaneId) : (s.dropClaim k).ports = s.ports := rfl
@[simp] theorem State.dropClaim_port (s : State) (k : LaneId) (l₀ : Link) :
    (s.dropClaim k).port l₀ = s.port l₀ := rfl
@[simp] theorem State.dropClaim_belt (s : State) (k : LaneId) : (s.dropClaim k).belt = s.belt := rfl
@[simp] theorem State.dropClaim_chute (s : State) (k : LaneId) : (s.dropClaim k).chute = s.chute := rfl
@[simp] theorem State.dropClaim_recog (s : State) (k : LaneId) : (s.dropClaim k).recog = s.recog := rfl
@[simp] theorem State.dropClaim_lanes (s : State) (k : LaneId) : (s.dropClaim k).lanes = s.lanes := rfl
@[simp] theorem State.dropClaim_lane (s : State) (k : LaneId) (k₀ : LaneId) :
    (s.dropClaim k).lane k₀ = s.lane k₀ := rfl
@[simp] theorem State.dropClaim_transit (s : State) (k : LaneId) : (s.dropClaim k).transit = s.transit := rfl
@[simp] theorem State.dropClaim_occupancy (s : State) (k : LaneId) :
    (s.dropClaim k).occupancy = s.occupancy := rfl
@[simp] theorem State.dropClaim_bins (s : State) (k : LaneId) : (s.dropClaim k).bins = s.bins := rfl
@[simp] theorem State.dropClaim_bin (s : State) (k : LaneId) (b₀ : BinId) :
    (s.dropClaim k).bin b₀ = s.bin b₀ := rfl
@[simp] theorem State.dropClaim_reject (s : State) (k : LaneId) : (s.dropClaim k).reject = s.reject := rfl
@[simp] theorem State.dropClaim_table (s : State) (k : LaneId) : (s.dropClaim k).table = s.table := rfl
@[simp] theorem State.dropClaim_plans (s : State) (k : LaneId) : (s.dropClaim k).plans = s.plans := rfl
@[simp] theorem State.dropClaim_corner (s : State) (k : LaneId) :
    (s.dropClaim k).corner = s.corner := rfl
@[simp] theorem State.dropClaim_lanePart (s : State) (k : LaneId) (k₀ : LaneId) :
    (s.dropClaim k).lanePart k₀ = s.lanePart k₀ := rfl
@[simp] theorem State.dropClaim_binPart (s : State) (k : LaneId) (b₀ : BinId) :
    (s.dropClaim k).binPart b₀ = s.binPart b₀ := rfl
@[simp] theorem State.dropClaim_supply (s : State) (k : LaneId) : (s.dropClaim k).supply = s.supply := rfl
@[simp] theorem State.dropClaim_isUp (s : State) (k : LaneId) :
    (s.dropClaim k).isUp = s.isUp := rfl
@[simp] theorem State.dropClaim_inHoldUp (s : State) (k : LaneId) :
    (s.dropClaim k).inHoldUp = s.inHoldUp := rfl
@[simp] theorem State.dropClaim_choices (s : State) (k : LaneId) : (s.dropClaim k).choices = s.choices := rfl
@[simp] theorem State.dropClaim_pending (s : State) (k : LaneId) : (s.dropClaim k).pending = s.pending := rfl

@[simp] theorem State.countUnconfirmed_ports (s : State) (k : LaneId) : (s.countUnconfirmed k).ports = s.ports := rfl
@[simp] theorem State.countUnconfirmed_port (s : State) (k : LaneId) (l₀ : Link) :
    (s.countUnconfirmed k).port l₀ = s.port l₀ := rfl
@[simp] theorem State.countUnconfirmed_belt (s : State) (k : LaneId) : (s.countUnconfirmed k).belt = s.belt := rfl
@[simp] theorem State.countUnconfirmed_chute (s : State) (k : LaneId) : (s.countUnconfirmed k).chute = s.chute := rfl
@[simp] theorem State.countUnconfirmed_recog (s : State) (k : LaneId) : (s.countUnconfirmed k).recog = s.recog := rfl
@[simp] theorem State.countUnconfirmed_merge (s : State) (k : LaneId) : (s.countUnconfirmed k).merge = s.merge := rfl
@[simp] theorem State.countUnconfirmed_claimOf (s : State) (k : LaneId) (k₀ : LaneId) :
    (s.countUnconfirmed k).claimOf k₀ = s.claimOf k₀ := rfl
@[simp] theorem State.countUnconfirmed_transit (s : State) (k : LaneId) : (s.countUnconfirmed k).transit = s.transit := rfl
@[simp] theorem State.countUnconfirmed_occupancy (s : State) (k : LaneId) :
    (s.countUnconfirmed k).occupancy = s.occupancy := rfl
@[simp] theorem State.countUnconfirmed_bins (s : State) (k : LaneId) : (s.countUnconfirmed k).bins = s.bins := rfl
@[simp] theorem State.countUnconfirmed_bin (s : State) (k : LaneId) (b₀ : BinId) :
    (s.countUnconfirmed k).bin b₀ = s.bin b₀ := rfl
@[simp] theorem State.countUnconfirmed_reject (s : State) (k : LaneId) : (s.countUnconfirmed k).reject = s.reject := rfl
@[simp] theorem State.countUnconfirmed_table (s : State) (k : LaneId) : (s.countUnconfirmed k).table = s.table := rfl
@[simp] theorem State.countUnconfirmed_plans (s : State) (k : LaneId) : (s.countUnconfirmed k).plans = s.plans := rfl
@[simp] theorem State.countUnconfirmed_corner (s : State) (k : LaneId) :
    (s.countUnconfirmed k).corner = s.corner := rfl
@[simp] theorem State.countUnconfirmed_lanePart (s : State) (k : LaneId) (k₀ : LaneId) :
    (s.countUnconfirmed k).lanePart k₀ = s.lanePart k₀ := rfl
@[simp] theorem State.countUnconfirmed_binPart (s : State) (k : LaneId) (b₀ : BinId) :
    (s.countUnconfirmed k).binPart b₀ = s.binPart b₀ := rfl
@[simp] theorem State.countUnconfirmed_supply (s : State) (k : LaneId) : (s.countUnconfirmed k).supply = s.supply := rfl
@[simp] theorem State.countUnconfirmed_isUp (s : State) (k : LaneId) :
    (s.countUnconfirmed k).isUp = s.isUp := rfl
@[simp] theorem State.countUnconfirmed_inHoldUp (s : State) (k : LaneId) :
    (s.countUnconfirmed k).inHoldUp = s.inHoldUp := rfl
@[simp] theorem State.countUnconfirmed_choices (s : State) (k : LaneId) : (s.countUnconfirmed k).choices = s.choices := rfl
@[simp] theorem State.countUnconfirmed_pending (s : State) (k : LaneId) : (s.countUnconfirmed k).pending = s.pending := rfl

@[simp] theorem State.refuseClaim_belt (s : State) (k : LaneId) (reason : Reason) : (s.refuseClaim k reason).belt = s.belt := rfl
@[simp] theorem State.refuseClaim_chute (s : State) (k : LaneId) (reason : Reason) : (s.refuseClaim k reason).chute = s.chute := rfl
@[simp] theorem State.refuseClaim_recog (s : State) (k : LaneId) (reason : Reason) : (s.refuseClaim k reason).recog = s.recog := rfl
@[simp] theorem State.refuseClaim_lanes (s : State) (k : LaneId) (reason : Reason) : (s.refuseClaim k reason).lanes = s.lanes := rfl
@[simp] theorem State.refuseClaim_lane (s : State) (k : LaneId) (reason : Reason) (k₀ : LaneId) :
    (s.refuseClaim k reason).lane k₀ = s.lane k₀ := rfl
@[simp] theorem State.refuseClaim_transit (s : State) (k : LaneId) (reason : Reason) : (s.refuseClaim k reason).transit = s.transit := rfl
@[simp] theorem State.refuseClaim_occupancy (s : State) (k : LaneId) (reason : Reason) :
    (s.refuseClaim k reason).occupancy = s.occupancy := rfl
@[simp] theorem State.refuseClaim_bins (s : State) (k : LaneId) (reason : Reason) : (s.refuseClaim k reason).bins = s.bins := rfl
@[simp] theorem State.refuseClaim_bin (s : State) (k : LaneId) (reason : Reason) (b₀ : BinId) :
    (s.refuseClaim k reason).bin b₀ = s.bin b₀ := rfl
@[simp] theorem State.refuseClaim_reject (s : State) (k : LaneId) (reason : Reason) : (s.refuseClaim k reason).reject = s.reject := rfl
@[simp] theorem State.refuseClaim_table (s : State) (k : LaneId) (reason : Reason) : (s.refuseClaim k reason).table = s.table := rfl
@[simp] theorem State.refuseClaim_plans (s : State) (k : LaneId) (reason : Reason) : (s.refuseClaim k reason).plans = s.plans := rfl
@[simp] theorem State.refuseClaim_corner (s : State) (k : LaneId) (reason : Reason) :
    (s.refuseClaim k reason).corner = s.corner := rfl
@[simp] theorem State.refuseClaim_lanePart (s : State) (k : LaneId) (reason : Reason) (k₀ : LaneId) :
    (s.refuseClaim k reason).lanePart k₀ = s.lanePart k₀ := rfl
@[simp] theorem State.refuseClaim_binPart (s : State) (k : LaneId) (reason : Reason) (b₀ : BinId) :
    (s.refuseClaim k reason).binPart b₀ = s.binPart b₀ := rfl
@[simp] theorem State.refuseClaim_supply (s : State) (k : LaneId) (reason : Reason) : (s.refuseClaim k reason).supply = s.supply := rfl
@[simp] theorem State.refuseClaim_isUp (s : State) (k : LaneId) (reason : Reason) :
    (s.refuseClaim k reason).isUp = s.isUp := rfl
@[simp] theorem State.refuseClaim_inHoldUp (s : State) (k : LaneId) (reason : Reason) :
    (s.refuseClaim k reason).inHoldUp = s.inHoldUp := rfl
@[simp] theorem State.refuseClaim_choices (s : State) (k : LaneId) (reason : Reason) : (s.refuseClaim k reason).choices = s.choices := rfl
@[simp] theorem State.refuseClaim_pending (s : State) (k : LaneId) (reason : Reason) : (s.refuseClaim k reason).pending = s.pending := rfl

@[simp] theorem State.creditTransit_ports (s : State) (k : LaneId) (d : Nat) : (s.creditTransit k d).ports = s.ports := rfl
@[simp] theorem State.creditTransit_port (s : State) (k : LaneId) (d : Nat) (l₀ : Link) :
    (s.creditTransit k d).port l₀ = s.port l₀ := rfl
@[simp] theorem State.creditTransit_belt (s : State) (k : LaneId) (d : Nat) : (s.creditTransit k d).belt = s.belt := rfl
@[simp] theorem State.creditTransit_chute (s : State) (k : LaneId) (d : Nat) : (s.creditTransit k d).chute = s.chute := rfl
@[simp] theorem State.creditTransit_recog (s : State) (k : LaneId) (d : Nat) : (s.creditTransit k d).recog = s.recog := rfl
@[simp] theorem State.creditTransit_merge (s : State) (k : LaneId) (d : Nat) : (s.creditTransit k d).merge = s.merge := rfl
@[simp] theorem State.creditTransit_claimOf (s : State) (k : LaneId) (d : Nat) (k₀ : LaneId) :
    (s.creditTransit k d).claimOf k₀ = s.claimOf k₀ := rfl
@[simp] theorem State.creditTransit_transit (s : State) (k : LaneId) (d : Nat) : (s.creditTransit k d).transit = s.transit := rfl
@[simp] theorem State.creditTransit_occupancy (s : State) (k : LaneId) (d : Nat) :
    (s.creditTransit k d).occupancy = s.occupancy := rfl
@[simp] theorem State.creditTransit_bins (s : State) (k : LaneId) (d : Nat) : (s.creditTransit k d).bins = s.bins := rfl
@[simp] theorem State.creditTransit_bin (s : State) (k : LaneId) (d : Nat) (b₀ : BinId) :
    (s.creditTransit k d).bin b₀ = s.bin b₀ := rfl
@[simp] theorem State.creditTransit_reject (s : State) (k : LaneId) (d : Nat) : (s.creditTransit k d).reject = s.reject := rfl
@[simp] theorem State.creditTransit_table (s : State) (k : LaneId) (d : Nat) : (s.creditTransit k d).table = s.table := rfl
@[simp] theorem State.creditTransit_plans (s : State) (k : LaneId) (d : Nat) : (s.creditTransit k d).plans = s.plans := rfl
@[simp] theorem State.creditTransit_corner (s : State) (k : LaneId) (d : Nat) :
    (s.creditTransit k d).corner = s.corner := rfl
@[simp] theorem State.creditTransit_lanePart (s : State) (k : LaneId) (d : Nat) (k₀ : LaneId) :
    (s.creditTransit k d).lanePart k₀ = s.lanePart k₀ := rfl
@[simp] theorem State.creditTransit_binPart (s : State) (k : LaneId) (d : Nat) (b₀ : BinId) :
    (s.creditTransit k d).binPart b₀ = s.binPart b₀ := rfl
@[simp] theorem State.creditTransit_supply (s : State) (k : LaneId) (d : Nat) : (s.creditTransit k d).supply = s.supply := rfl
@[simp] theorem State.creditTransit_isUp (s : State) (k : LaneId) (d : Nat) :
    (s.creditTransit k d).isUp = s.isUp := rfl
@[simp] theorem State.creditTransit_inHoldUp (s : State) (k : LaneId) (d : Nat) :
    (s.creditTransit k d).inHoldUp = s.inHoldUp := rfl
@[simp] theorem State.creditTransit_choices (s : State) (k : LaneId) (d : Nat) : (s.creditTransit k d).choices = s.choices := rfl
@[simp] theorem State.creditTransit_pending (s : State) (k : LaneId) (d : Nat) : (s.creditTransit k d).pending = s.pending := rfl

@[simp] theorem State.setTotals_ports (s : State) (t : Totals) : (s.setTotals t).ports = s.ports := rfl
@[simp] theorem State.setTotals_port (s : State) (t : Totals) (l₀ : Link) :
    (s.setTotals t).port l₀ = s.port l₀ := rfl
@[simp] theorem State.setTotals_belt (s : State) (t : Totals) : (s.setTotals t).belt = s.belt := rfl
@[simp] theorem State.setTotals_chute (s : State) (t : Totals) : (s.setTotals t).chute = s.chute := rfl
@[simp] theorem State.setTotals_recog (s : State) (t : Totals) : (s.setTotals t).recog = s.recog := rfl
@[simp] theorem State.setTotals_lanes (s : State) (t : Totals) : (s.setTotals t).lanes = s.lanes := rfl
@[simp] theorem State.setTotals_lane (s : State) (t : Totals) (k₀ : LaneId) :
    (s.setTotals t).lane k₀ = s.lane k₀ := rfl
@[simp] theorem State.setTotals_merge (s : State) (t : Totals) : (s.setTotals t).merge = s.merge := rfl
@[simp] theorem State.setTotals_claimOf (s : State) (t : Totals) (k₀ : LaneId) :
    (s.setTotals t).claimOf k₀ = s.claimOf k₀ := rfl
@[simp] theorem State.setTotals_transit (s : State) (t : Totals) : (s.setTotals t).transit = s.transit := rfl
@[simp] theorem State.setTotals_occupancy (s : State) (t : Totals) :
    (s.setTotals t).occupancy = s.occupancy := rfl
@[simp] theorem State.setTotals_bins (s : State) (t : Totals) : (s.setTotals t).bins = s.bins := rfl
@[simp] theorem State.setTotals_bin (s : State) (t : Totals) (b₀ : BinId) :
    (s.setTotals t).bin b₀ = s.bin b₀ := rfl
@[simp] theorem State.setTotals_reject (s : State) (t : Totals) : (s.setTotals t).reject = s.reject := rfl
@[simp] theorem State.setTotals_plans (s : State) (t : Totals) : (s.setTotals t).plans = s.plans := rfl
@[simp] theorem State.setTotals_corner (s : State) (t : Totals) :
    (s.setTotals t).corner = s.corner := rfl
@[simp] theorem State.setTotals_lanePart (s : State) (t : Totals) (k₀ : LaneId) :
    (s.setTotals t).lanePart k₀ = s.lanePart k₀ := rfl
@[simp] theorem State.setTotals_binPart (s : State) (t : Totals) (b₀ : BinId) :
    (s.setTotals t).binPart b₀ = s.binPart b₀ := rfl
@[simp] theorem State.setTotals_supply (s : State) (t : Totals) : (s.setTotals t).supply = s.supply := rfl
@[simp] theorem State.setTotals_isUp (s : State) (t : Totals) :
    (s.setTotals t).isUp = s.isUp := rfl
@[simp] theorem State.setTotals_inHoldUp (s : State) (t : Totals) :
    (s.setTotals t).inHoldUp = s.inHoldUp := rfl
@[simp] theorem State.setTotals_choices (s : State) (t : Totals) : (s.setTotals t).choices = s.choices := rfl
@[simp] theorem State.setTotals_pending (s : State) (t : Totals) : (s.setTotals t).pending = s.pending := rfl

@[simp] theorem State.advanceCount_ports (s : State) : (s.advanceCount).ports = s.ports := rfl
@[simp] theorem State.advanceCount_port (s : State) (l₀ : Link) :
    (s.advanceCount).port l₀ = s.port l₀ := rfl
@[simp] theorem State.advanceCount_chute (s : State) : (s.advanceCount).chute = s.chute := rfl
@[simp] theorem State.advanceCount_recog (s : State) : (s.advanceCount).recog = s.recog := rfl
@[simp] theorem State.advanceCount_lanes (s : State) : (s.advanceCount).lanes = s.lanes := rfl
@[simp] theorem State.advanceCount_lane (s : State) (k₀ : LaneId) :
    (s.advanceCount).lane k₀ = s.lane k₀ := rfl
@[simp] theorem State.advanceCount_merge (s : State) : (s.advanceCount).merge = s.merge := rfl
@[simp] theorem State.advanceCount_claimOf (s : State) (k₀ : LaneId) :
    (s.advanceCount).claimOf k₀ = s.claimOf k₀ := rfl
@[simp] theorem State.advanceCount_transit (s : State) : (s.advanceCount).transit = s.transit := rfl
@[simp] theorem State.advanceCount_occupancy (s : State) :
    (s.advanceCount).occupancy = s.occupancy := rfl
@[simp] theorem State.advanceCount_bins (s : State) : (s.advanceCount).bins = s.bins := rfl
@[simp] theorem State.advanceCount_bin (s : State) (b₀ : BinId) :
    (s.advanceCount).bin b₀ = s.bin b₀ := rfl
@[simp] theorem State.advanceCount_reject (s : State) : (s.advanceCount).reject = s.reject := rfl
@[simp] theorem State.advanceCount_table (s : State) : (s.advanceCount).table = s.table := rfl
@[simp] theorem State.advanceCount_plans (s : State) : (s.advanceCount).plans = s.plans := rfl
@[simp] theorem State.advanceCount_corner (s : State) :
    (s.advanceCount).corner = s.corner := rfl
@[simp] theorem State.advanceCount_lanePart (s : State) (k₀ : LaneId) :
    (s.advanceCount).lanePart k₀ = s.lanePart k₀ := rfl
@[simp] theorem State.advanceCount_binPart (s : State) (b₀ : BinId) :
    (s.advanceCount).binPart b₀ = s.binPart b₀ := rfl
@[simp] theorem State.advanceCount_supply (s : State) : (s.advanceCount).supply = s.supply := rfl
@[simp] theorem State.advanceCount_isUp (s : State) :
    (s.advanceCount).isUp = s.isUp := rfl
@[simp] theorem State.advanceCount_inHoldUp (s : State) :
    (s.advanceCount).inHoldUp = s.inHoldUp := rfl
@[simp] theorem State.advanceCount_choices (s : State) : (s.advanceCount).choices = s.choices := rfl
@[simp] theorem State.advanceCount_pending (s : State) : (s.advanceCount).pending = s.pending := rfl

/-! ### What each update writes -/

@[simp] theorem State.raise_port_self (s : State) (l : Link) (n : Notice) :
    (s.raise l n).port l = { s.port l with notices := (s.port l).notices.set n } := by simp [State.raise]
@[simp] theorem State.raise_port_ne (s : State) {l m : Link} (n : Notice) (h : m ≠ l) :
    (s.raise l n).port m = s.port m := by simp [State.raise, h]
@[simp] theorem State.respond_port_self (s : State) (l : Link) (r : Response) :
    (s.respond l r).port l = (s.port l).enqueue r.frame := by simp [State.respond]
@[simp] theorem State.respond_port_ne (s : State) {l m : Link} (r : Response) (h : m ≠ l) :
    (s.respond l r).port m = s.port m := by simp [State.respond, h]
@[simp] theorem State.answer_port_self (s : State) (l : Link) (r : Response) :
    (s.answer l r).port l = { (s.port l).enqueue r.frame with inFlight := none } := by simp [State.answer]
@[simp] theorem State.answer_port_ne (s : State) {l m : Link} (r : Response) (h : m ≠ l) :
    (s.answer l r).port m = s.port m := by simp [State.answer, h]
@[simp] theorem State.keepInFlight_port_self (s : State) (l : Link) (k : ReqKind) :
    (s.keepInFlight l k).port l = { s.port l with inFlight := some k } := by simp [State.keepInFlight]
@[simp] theorem State.keepInFlight_port_ne (s : State) {l m : Link} (k : ReqKind) (h : m ≠ l) :
    (s.keepInFlight l k).port m = s.port m := by simp [State.keepInFlight, h]
@[simp] theorem State.setReceiver_port_self (s : State) (l : Link) (r : Receiver) :
    (s.setReceiver l r).port l = { s.port l with receiver := r } := by simp [State.setReceiver]
@[simp] theorem State.setReceiver_port_ne (s : State) {l m : Link} (r : Receiver) (h : m ≠ l) :
    (s.setReceiver l r).port m = s.port m := by simp [State.setReceiver, h]
@[simp] theorem State.setMergeHold_merge (s : State) (h : Bool) :
    (s.setMergeHold h).merge = { s.merge with mergeHold := h } := rfl
@[simp] theorem State.evalAtLimit_reject (s : State) :
    s.evalAtLimit.reject = { s.reject with atLimit := decide (s.corner.rejectLimit ≤ s.reject.count) } := rfl
@[simp] theorem State.closeCursor_recog (s : State) : s.closeCursor.recog = { s.recog with cursor := none } := rfl
@[simp] theorem State.dropClaim_merge (s : State) (k : LaneId) :
    (s.dropClaim k).merge = { s.merge with claims := s.merge.claims.filter fun c => !(c.lane == k) } := rfl
@[simp] theorem State.refuseClaim_merge (s : State) (k : LaneId) (reason : Reason) :
    (s.refuseClaim k reason).merge = { s.merge with claims := s.merge.claims.filter fun c => !(c.lane == k) } := rfl
@[simp] theorem State.refuseClaim_port_self (s : State) (k : LaneId) (reason : Reason) :
    (s.refuseClaim k reason).port (.lane k) =
      { (s.port (.lane k)).enqueue (Response.refuse ReqKind.container.code reason 0).frame with inFlight := none } := by
  simp [State.refuseClaim]
@[simp] theorem State.refuseClaim_port_ne (s : State) {k : LaneId} {m : Link} (reason : Reason) (h : m ≠ .lane k) :
    (s.refuseClaim k reason).port m = s.port m := by simp [State.refuseClaim, h]
@[simp] theorem State.setTotals_table (s : State) (t : Totals) : (s.setTotals t).table = { s.table with totals := t } := rfl
@[simp] theorem State.advanceCount_belt (s : State) :
    s.advanceCount.belt = { s.belt with count := s.belt.count + 1 } := rfl


end Sys2Proof.Machine
end

