-- ==== Sys2Proof/Laws/Ops.lean ====
section
/-! SUPPORT. One lemma for each shared operation of Machine/Ops.lean and Machine/BinOps.lean that says everything it can do,
and the parts of the state that it leaves. -/

namespace Sys2Proof.Machine

/-! ### Frames joining a queue (R159) -/

@[simp] theorem LinkPort.enqueue_receiver (p : LinkPort) (f : List Byte) : (p.enqueue f).receiver = p.receiver := by
  unfold LinkPort.enqueue LinkPort.beginNext; dsimp only; split_ifs <;> (try split) <;> rfl
@[simp] theorem LinkPort.enqueue_inFlight (p : LinkPort) (f : List Byte) : (p.enqueue f).inFlight = p.inFlight := by
  unfold LinkPort.enqueue LinkPort.beginNext; dsimp only; split_ifs <;> (try split) <;> rfl
@[simp] theorem LinkPort.enqueue_outQueue (p : LinkPort) (f : List Byte) :
    (p.enqueue f).outQueue = p.outQueue ++ [f] := by
  unfold LinkPort.enqueue LinkPort.beginNext; dsimp only; split_ifs <;> (try split) <;> rfl
@[simp] theorem LinkPort.enqueue_notices (p : LinkPort) (f : List Byte) : (p.enqueue f).notices = p.notices := by
  unfold LinkPort.enqueue LinkPort.beginNext; dsimp only; split_ifs <;> (try split) <;> rfl
@[simp] theorem LinkPort.enqueue_power (p : LinkPort) (f : List Byte) : (p.enqueue f).power = p.power := by
  unfold LinkPort.enqueue LinkPort.beginNext; dsimp only; split_ifs <;> (try split) <;> rfl

/-- A busy transmitter goes on as it was when a frame joins its queue. -/
theorem LinkPort.enqueue_busy (p : LinkPort) (f : List Byte) (h : p.transmitter ≠ .idle) :
    (p.enqueue f).transmitter = p.transmitter ∧ (p.enqueue f).pendingStatus = p.pendingStatus := by
  simp [LinkPort.enqueue, h]

/-- An idle transmitter with no pending status byte begins the frame. -/
theorem LinkPort.enqueue_idle (p : LinkPort) (f : List Byte) (h : p.transmitter = .idle) (hp : p.pendingStatus = none) :
    (p.enqueue f).transmitter = .frame ∧ (p.enqueue f).pendingStatus = none := by
  simp [LinkPort.enqueue, LinkPort.beginNext, h, hp]

/-- An idle transmitter with a pending status byte begins that byte. -/
theorem LinkPort.enqueue_status (p : LinkPort) (f : List Byte) (b : Byte) (h : p.transmitter = .idle)
    (hp : p.pendingStatus = some b) :
    (p.enqueue f).transmitter = .status b ∧ (p.enqueue f).pendingStatus = none := by
  simp [LinkPort.enqueue, LinkPort.beginNext, h, hp]

/-! ### Held and running (R7, R56, R63) -/

@[simp] theorem State.raiseAllLanes_belt (s : State) : (s.raiseAllLanes).belt = s.belt := rfl
@[simp] theorem State.raiseAllLanes_chute (s : State) : (s.raiseAllLanes).chute = s.chute := rfl
@[simp] theorem State.raiseAllLanes_recog (s : State) : (s.raiseAllLanes).recog = s.recog := rfl
@[simp] theorem State.raiseAllLanes_lanes (s : State) : (s.raiseAllLanes).lanes = s.lanes := rfl
@[simp] theorem State.raiseAllLanes_lane (s : State) (k₀ : LaneId) :
    (s.raiseAllLanes).lane k₀ = s.lane k₀ := rfl
@[simp] theorem State.raiseAllLanes_merge (s : State) : (s.raiseAllLanes).merge = s.merge := rfl
@[simp] theorem State.raiseAllLanes_claimOf (s : State) (k₀ : LaneId) :
    (s.raiseAllLanes).claimOf k₀ = s.claimOf k₀ := rfl
@[simp] theorem State.raiseAllLanes_transit (s : State) : (s.raiseAllLanes).transit = s.transit := rfl
@[simp] theorem State.raiseAllLanes_occupancy (s : State) :
    (s.raiseAllLanes).occupancy = s.occupancy := rfl
@[simp] theorem State.raiseAllLanes_bins (s : State) : (s.raiseAllLanes).bins = s.bins := rfl
@[simp] theorem State.raiseAllLanes_bin (s : State) (b₀ : BinId) :
    (s.raiseAllLanes).bin b₀ = s.bin b₀ := rfl
@[simp] theorem State.raiseAllLanes_reject (s : State) : (s.raiseAllLanes).reject = s.reject := rfl
@[simp] theorem State.raiseAllLanes_table (s : State) : (s.raiseAllLanes).table = s.table := rfl
@[simp] theorem State.raiseAllLanes_plans (s : State) : (s.raiseAllLanes).plans = s.plans := rfl
@[simp] theorem State.raiseAllLanes_corner (s : State) :
    (s.raiseAllLanes).corner = s.corner := rfl
@[simp] theorem State.raiseAllLanes_lanePart (s : State) (k₀ : LaneId) :
    (s.raiseAllLanes).lanePart k₀ = s.lanePart k₀ := rfl
@[simp] theorem State.raiseAllLanes_binPart (s : State) (b₀ : BinId) :
    (s.raiseAllLanes).binPart b₀ = s.binPart b₀ := rfl
@[simp] theorem State.raiseAllLanes_supply (s : State) : (s.raiseAllLanes).supply = s.supply := rfl
@[simp] theorem State.raiseAllLanes_isUp (s : State) :
    (s.raiseAllLanes).isUp = s.isUp := rfl
@[simp] theorem State.raiseAllLanes_inHoldUp (s : State) :
    (s.raiseAllLanes).inHoldUp = s.inHoldUp := rfl
@[simp] theorem State.raiseAllLanes_choices (s : State) : (s.raiseAllLanes).choices = s.choices := rfl
@[simp] theorem State.raiseAllLanes_pending (s : State) : (s.raiseAllLanes).pending = s.pending := rfl

/-- Raising the STATE notice of every lane sets it on the lane links and leaves the other two. -/
theorem State.raiseAllLanes_port (s : State) (l : Link) :
    s.raiseAllLanes.port l =
      match l with
      | .lane k => { s.port (.lane k) with notices := { (s.port (.lane k)).notices with state := true } }
      | .checkout => s.port .checkout
      | .office => s.port .office := by
  unfold State.raiseAllLanes laneIds
  cases l with
  | lane k => fin_cases k <;> simp [State.raise, Notices.set]
  | checkout => simp [State.raise]
  | office => simp [State.raise]

@[simp] theorem State.raiseAllLanes_port_lane (s : State) (k : LaneId) :
    s.raiseAllLanes.port (.lane k) =
      { s.port (.lane k) with notices := { (s.port (.lane k)).notices with state := true } } :=
  s.raiseAllLanes_port (.lane k)
@[simp] theorem State.raiseAllLanes_port_checkout (s : State) : s.raiseAllLanes.port .checkout = s.port .checkout :=
  s.raiseAllLanes_port .checkout
@[simp] theorem State.raiseAllLanes_port_office (s : State) : s.raiseAllLanes.port .office = s.port .office :=
  s.raiseAllLanes_port .office

@[simp] theorem State.raiseAllLanes_heldCauses (s : State) : s.raiseAllLanes.heldCauses = s.heldCauses := by
  simp [State.heldCauses]

@[simp] theorem State.reformHeld_belt (s : State) : (s.reformHeld).belt = s.belt := by unfold State.reformHeld; split <;> simp
@[simp] theorem State.reformHeld_chute (s : State) : (s.reformHeld).chute = s.chute := by unfold State.reformHeld; split <;> simp
@[simp] theorem State.reformHeld_recog (s : State) : (s.reformHeld).recog = s.recog := by unfold State.reformHeld; split <;> simp
@[simp] theorem State.reformHeld_lanes (s : State) : (s.reformHeld).lanes = s.lanes := by unfold State.reformHeld; split <;> simp
@[simp] theorem State.reformHeld_lane (s : State) (k₀ : LaneId) :
    (s.reformHeld).lane k₀ = s.lane k₀ := by simp [State.lane]
@[simp] theorem State.reformHeld_transit (s : State) : (s.reformHeld).transit = s.transit := by unfold State.reformHeld; split <;> simp
@[simp] theorem State.reformHeld_occupancy (s : State) :
    (s.reformHeld).occupancy = s.occupancy := by simp [State.occupancy]
@[simp] theorem State.reformHeld_bins (s : State) : (s.reformHeld).bins = s.bins := by unfold State.reformHeld; split <;> simp
@[simp] theorem State.reformHeld_bin (s : State) (b₀ : BinId) :
    (s.reformHeld).bin b₀ = s.bin b₀ := by simp [State.bin]
@[simp] theorem State.reformHeld_reject (s : State) : (s.reformHeld).reject = s.reject := by unfold State.reformHeld; split <;> simp
@[simp] theorem State.reformHeld_table (s : State) : (s.reformHeld).table = s.table := by unfold State.reformHeld; split <;> simp
@[simp] theorem State.reformHeld_plans (s : State) : (s.reformHeld).plans = s.plans := by unfold State.reformHeld; split <;> simp
@[simp] theorem State.reformHeld_corner (s : State) :
    (s.reformHeld).corner = s.corner := by simp [State.corner]
@[simp] theorem State.reformHeld_lanePart (s : State) (k₀ : LaneId) :
    (s.reformHeld).lanePart k₀ = s.lanePart k₀ := by simp [State.lanePart]
@[simp] theorem State.reformHeld_binPart (s : State) (b₀ : BinId) :
    (s.reformHeld).binPart b₀ = s.binPart b₀ := by simp [State.binPart]
@[simp] theorem State.reformHeld_supply (s : State) : (s.reformHeld).supply = s.supply := by unfold State.reformHeld; split <;> simp
@[simp] theorem State.reformHeld_isUp (s : State) :
    (s.reformHeld).isUp = s.isUp := by simp [State.isUp]
@[simp] theorem State.reformHeld_inHoldUp (s : State) :
    (s.reformHeld).inHoldUp = s.inHoldUp := by simp [State.inHoldUp]
@[simp] theorem State.reformHeld_choices (s : State) : (s.reformHeld).choices = s.choices := by unfold State.reformHeld; split <;> simp
@[simp] theorem State.reformHeld_pending (s : State) : (s.reformHeld).pending = s.pending := by unfold State.reformHeld; split <;> simp

/-- Forming held again writes its causes and nothing else of the Merge Arbiter (R63). -/
@[simp] theorem State.reformHeld_merge (s : State) : s.reformHeld.merge = { s.merge with held := s.heldCauses } := by
  unfold State.reformHeld
  split
  · rename_i h; rw [h]
  · simp

@[simp] theorem State.reformHeld_heldCauses (s : State) : s.reformHeld.heldCauses = s.heldCauses := by
  simp [State.heldCauses]

/-- Forming held again sets the STATE notice of every lane where held changes (R56). -/
theorem State.reformHeld_port_lane (s : State) (k : LaneId) :
    s.reformHeld.port (.lane k) =
      if s.heldCauses = s.merge.held then s.port (.lane k)
      else { s.port (.lane k) with notices := { (s.port (.lane k)).notices with state := true } } := by
  unfold State.reformHeld
  split
  · rfl
  · exact State.raiseAllLanes_port_lane _ k

@[simp] theorem State.reformHeld_port_checkout (s : State) : s.reformHeld.port .checkout = s.port .checkout := by
  unfold State.reformHeld
  split
  · rfl
  · exact State.raiseAllLanes_port_checkout _
@[simp] theorem State.reformHeld_port_office (s : State) : s.reformHeld.port .office = s.port .office := by
  unfold State.reformHeld
  split
  · rfl
  · exact State.raiseAllLanes_port_office _

@[simp] theorem State.reevaluateRunning_chute (s : State) : (s.reevaluateRunning).chute = s.chute := by unfold State.reevaluateRunning; split <;> simp
@[simp] theorem State.reevaluateRunning_recog (s : State) : (s.reevaluateRunning).recog = s.recog := by unfold State.reevaluateRunning; split <;> simp
@[simp] theorem State.reevaluateRunning_lanes (s : State) : (s.reevaluateRunning).lanes = s.lanes := by unfold State.reevaluateRunning; split <;> simp
@[simp] theorem State.reevaluateRunning_lane (s : State) (k₀ : LaneId) :
    (s.reevaluateRunning).lane k₀ = s.lane k₀ := by simp [State.lane]
@[simp] theorem State.reevaluateRunning_transit (s : State) : (s.reevaluateRunning).transit = s.transit := by unfold State.reevaluateRunning; split <;> simp
@[simp] theorem State.reevaluateRunning_occupancy (s : State) :
    (s.reevaluateRunning).occupancy = s.occupancy := by simp [State.occupancy]
@[simp] theorem State.reevaluateRunning_bins (s : State) : (s.reevaluateRunning).bins = s.bins := by unfold State.reevaluateRunning; split <;> simp
@[simp] theorem State.reevaluateRunning_bin (s : State) (b₀ : BinId) :
    (s.reevaluateRunning).bin b₀ = s.bin b₀ := by simp [State.bin]
@[simp] theorem State.reevaluateRunning_reject (s : State) : (s.reevaluateRunning).reject = s.reject := by unfold State.reevaluateRunning; split <;> simp
@[simp] theorem State.reevaluateRunning_table (s : State) : (s.reevaluateRunning).table = s.table := by unfold State.reevaluateRunning; split <;> simp
@[simp] theorem State.reevaluateRunning_plans (s : State) : (s.reevaluateRunning).plans = s.plans := by unfold State.reevaluateRunning; split <;> simp
@[simp] theorem State.reevaluateRunning_corner (s : State) :
    (s.reevaluateRunning).corner = s.corner := by simp [State.corner]
@[simp] theorem State.reevaluateRunning_lanePart (s : State) (k₀ : LaneId) :
    (s.reevaluateRunning).lanePart k₀ = s.lanePart k₀ := by simp [State.lanePart]
@[simp] theorem State.reevaluateRunning_binPart (s : State) (b₀ : BinId) :
    (s.reevaluateRunning).binPart b₀ = s.binPart b₀ := by simp [State.binPart]
@[simp] theorem State.reevaluateRunning_supply (s : State) : (s.reevaluateRunning).supply = s.supply := by unfold State.reevaluateRunning; split <;> simp
@[simp] theorem State.reevaluateRunning_isUp (s : State) :
    (s.reevaluateRunning).isUp = s.isUp := by simp [State.isUp]
@[simp] theorem State.reevaluateRunning_inHoldUp (s : State) :
    (s.reevaluateRunning).inHoldUp = s.inHoldUp := by simp [State.inHoldUp]
@[simp] theorem State.reevaluateRunning_choices (s : State) : (s.reevaluateRunning).choices = s.choices := by unfold State.reevaluateRunning; split <;> simp
@[simp] theorem State.reevaluateRunning_pending (s : State) : (s.reevaluateRunning).pending = s.pending := by unfold State.reevaluateRunning; split <;> simp

/-- Evaluating running again writes its four conditions and nothing else of Belt Control (R7). -/
@[simp] theorem State.reevaluateRunning_belt (s : State) :
    s.reevaluateRunning.belt = { s.belt with running := s.runConditions } := by
  unfold State.reevaluateRunning
  split
  · rename_i h; rw [h]
  · simp

/-- A change of running forms held again (R63); no change leaves the Merge Arbiter as it was. -/
theorem State.reevaluateRunning_merge (s : State) :
    s.reevaluateRunning.merge =
      if s.runConditions = s.belt.running then s.merge
      else { s.merge with held := State.heldCauses { s with belt := { s.belt with running := s.runConditions } } } := by
  unfold State.reevaluateRunning
  split
  · rfl
  · simp

/-- A change of running that changes held sets the STATE notice of every lane. -/
theorem State.reevaluateRunning_port_lane (s : State) (k : LaneId) :
    s.reevaluateRunning.port (.lane k) =
      if s.runConditions = s.belt.running ∨
          State.heldCauses { s with belt := { s.belt with running := s.runConditions } } = s.merge.held then
        s.port (.lane k)
      else { s.port (.lane k) with notices := { (s.port (.lane k)).notices with state := true } } := by
  unfold State.reevaluateRunning
  by_cases h : s.runConditions = s.belt.running
  · simp [h]
  · simp only [h, if_false, State.reformHeld_port_lane, false_or]
    rfl

@[simp] theorem State.reevaluateRunning_port_checkout (s : State) :
    s.reevaluateRunning.port .checkout = s.port .checkout := by
  unfold State.reevaluateRunning
  split
  · rfl
  · exact State.reformHeld_port_checkout _
@[simp] theorem State.reevaluateRunning_port_office (s : State) :
    s.reevaluateRunning.port .office = s.port .office := by
  unfold State.reevaluateRunning
  split
  · rfl
  · exact State.reformHeld_port_office _

@[simp] theorem State.reevaluateRunning_mergeHold (s : State) :
    s.reevaluateRunning.merge.mergeHold = s.merge.mergeHold := by
  rw [State.reevaluateRunning_merge]; split <;> rfl
@[simp] theorem State.reevaluateRunning_claims (s : State) : s.reevaluateRunning.merge.claims = s.merge.claims := by
  rw [State.reevaluateRunning_merge]; split <;> rfl
@[simp] theorem State.reevaluateRunning_claimOf (s : State) (k : LaneId) : s.reevaluateRunning.claimOf k = s.claimOf k := by
  simp [State.claimOf]
@[simp] theorem State.reformHeld_claimOf (s : State) (k : LaneId) : s.reformHeld.claimOf k = s.claimOf k := by
  simp [State.claimOf]

/-- The Merge Arbiter after running was evaluated, in terms of the state reached. -/
theorem State.reevaluateRunning_held (s : State) :
    s.reevaluateRunning.merge =
      if s.reevaluateRunning.belt.running = s.belt.running then s.merge
      else { s.merge with held := s.reevaluateRunning.heldCauses } := by
  rw [State.reevaluateRunning_merge]
  simp [State.heldCauses, State.inHoldUp]

/-- A lane link after held was formed again has its STATE notice set exactly where held changed. -/
theorem State.reformHeld_noticed (s : State) (k : LaneId) :
    s.reformHeld.port (.lane k) = (s.port (.lane k)).noticed (s.reformHeld.merge.held != s.merge.held) := by
  rw [State.reformHeld_port_lane]
  simp only [State.reformHeld_merge, LinkPort.noticed]
  by_cases h : s.heldCauses = s.merge.held <;> simp [h]

/-- A lane link after running was evaluated has its STATE notice set exactly where held changed. -/
theorem State.reevaluateRunning_noticed (s : State) (k : LaneId) :
    s.reevaluateRunning.port (.lane k) =
      (s.port (.lane k)).noticed (s.reevaluateRunning.merge.held != s.merge.held) := by
  unfold State.reevaluateRunning
  split
  · simp [LinkPort.noticed]
  · exact State.reformHeld_noticed _ k

/-! ### Bins (R105, R108) -/

@[simp] theorem State.warnTest_belt (s : State) (b : BinId) : (s.warnTest b).belt = s.belt := by unfold State.warnTest; dsimp only; split <;> simp
@[simp] theorem State.warnTest_chute (s : State) (b : BinId) : (s.warnTest b).chute = s.chute := by unfold State.warnTest; dsimp only; split <;> simp
@[simp] theorem State.warnTest_recog (s : State) (b : BinId) : (s.warnTest b).recog = s.recog := by unfold State.warnTest; dsimp only; split <;> simp
@[simp] theorem State.warnTest_lanes (s : State) (b : BinId) : (s.warnTest b).lanes = s.lanes := by unfold State.warnTest; dsimp only; split <;> simp
@[simp] theorem State.warnTest_lane (s : State) (b : BinId) (k₀ : LaneId) :
    (s.warnTest b).lane k₀ = s.lane k₀ := by simp [State.lane]
@[simp] theorem State.warnTest_merge (s : State) (b : BinId) : (s.warnTest b).merge = s.merge := by unfold State.warnTest; dsimp only; split <;> simp
@[simp] theorem State.warnTest_claimOf (s : State) (b : BinId) (k₀ : LaneId) :
    (s.warnTest b).claimOf k₀ = s.claimOf k₀ := by simp [State.claimOf]
@[simp] theorem State.warnTest_transit (s : State) (b : BinId) : (s.warnTest b).transit = s.transit := by unfold State.warnTest; dsimp only; split <;> simp
@[simp] theorem State.warnTest_occupancy (s : State) (b : BinId) :
    (s.warnTest b).occupancy = s.occupancy := by simp [State.occupancy]
@[simp] theorem State.warnTest_reject (s : State) (b : BinId) : (s.warnTest b).reject = s.reject := by unfold State.warnTest; dsimp only; split <;> simp
@[simp] theorem State.warnTest_table (s : State) (b : BinId) : (s.warnTest b).table = s.table := by unfold State.warnTest; dsimp only; split <;> simp
@[simp] theorem State.warnTest_plans (s : State) (b : BinId) : (s.warnTest b).plans = s.plans := by unfold State.warnTest; dsimp only; split <;> simp
@[simp] theorem State.warnTest_corner (s : State) (b : BinId) :
    (s.warnTest b).corner = s.corner := by simp [State.corner]
@[simp] theorem State.warnTest_lanePart (s : State) (b : BinId) (k₀ : LaneId) :
    (s.warnTest b).lanePart k₀ = s.lanePart k₀ := by simp [State.lanePart]
@[simp] theorem State.warnTest_binPart (s : State) (b : BinId) (b₀ : BinId) :
    (s.warnTest b).binPart b₀ = s.binPart b₀ := by simp [State.binPart]
@[simp] theorem State.warnTest_supply (s : State) (b : BinId) : (s.warnTest b).supply = s.supply := by unfold State.warnTest; dsimp only; split <;> simp
@[simp] theorem State.warnTest_isUp (s : State) (b : BinId) :
    (s.warnTest b).isUp = s.isUp := by simp [State.isUp]
@[simp] theorem State.warnTest_inHoldUp (s : State) (b : BinId) :
    (s.warnTest b).inHoldUp = s.inHoldUp := by simp [State.inHoldUp]
@[simp] theorem State.warnTest_choices (s : State) (b : BinId) : (s.warnTest b).choices = s.choices := by unfold State.warnTest; dsimp only; split <;> simp
@[simp] theorem State.warnTest_pending (s : State) (b : BinId) : (s.warnTest b).pending = s.pending := by unfold State.warnTest; dsimp only; split <;> simp

/-- The WARN test sets WARN where the sum is at or above the mark, and nothing else of the bins (R105). -/
theorem State.warnTest_bin (s : State) (b a : BinId) :
    (s.warnTest b).bin a =
      if a = b then { s.bin b with warn := (s.bin b).warn || decide ((s.bin b).warningMark ≤ (s.bin b).sum) }
      else s.bin a := by
  unfold State.warnTest
  by_cases ha : a = b
  · subst ha
    rcases h : s.bin a with ⟨st, m, c, r, w, cf, rs, it, wn⟩
    cases wn <;> by_cases hm : w ≤ cf + rs <;> simp [Bin.sum, hm, h]
  · dsimp only
    split <;> simp [ha]

/-- The WARN test sets the BIN notice where it sets WARN, and touches no other link (R105, R114). -/
theorem State.warnTest_port (s : State) (b : BinId) (l : Link) :
    (s.warnTest b).port l =
      if l = .office ∧ (s.bin b).warn = false ∧ (s.bin b).warningMark ≤ (s.bin b).sum then
        { s.port .office with notices := { (s.port .office).notices with bin := true } }
      else s.port l := by
  unfold State.warnTest
  by_cases hl : l = .office
  · subst hl
    cases hw : (s.bin b).warn <;> by_cases hm : (s.bin b).warningMark ≤ (s.bin b).sum <;> simp [hm, hw, Notices.set]
  · dsimp only
    split <;> simp [hl]

@[simp] theorem State.reserve_belt (s : State) (b : BinId) (v : Nat) : (s.reserve b v).belt = s.belt := by simp [State.reserve]
@[simp] theorem State.reserve_chute (s : State) (b : BinId) (v : Nat) : (s.reserve b v).chute = s.chute := by simp [State.reserve]
@[simp] theorem State.reserve_recog (s : State) (b : BinId) (v : Nat) : (s.reserve b v).recog = s.recog := by simp [State.reserve]
@[simp] theorem State.reserve_lanes (s : State) (b : BinId) (v : Nat) : (s.reserve b v).lanes = s.lanes := by simp [State.reserve]
@[simp] theorem State.reserve_lane (s : State) (b : BinId) (v : Nat) (k₀ : LaneId) :
    (s.reserve b v).lane k₀ = s.lane k₀ := by simp [State.lane]
@[simp] theorem State.reserve_merge (s : State) (b : BinId) (v : Nat) : (s.reserve b v).merge = s.merge := by simp [State.reserve]
@[simp] theorem State.reserve_claimOf (s : State) (b : BinId) (v : Nat) (k₀ : LaneId) :
    (s.reserve b v).claimOf k₀ = s.claimOf k₀ := by simp [State.claimOf]
@[simp] theorem State.reserve_transit (s : State) (b : BinId) (v : Nat) : (s.reserve b v).transit = s.transit := by simp [State.reserve]
@[simp] theorem State.reserve_occupancy (s : State) (b : BinId) (v : Nat) :
    (s.reserve b v).occupancy = s.occupancy := by simp [State.occupancy]
@[simp] theorem State.reserve_reject (s : State) (b : BinId) (v : Nat) : (s.reserve b v).reject = s.reject := by simp [State.reserve]
@[simp] theorem State.reserve_table (s : State) (b : BinId) (v : Nat) : (s.reserve b v).table = s.table := by simp [State.reserve]
@[simp] theorem State.reserve_plans (s : State) (b : BinId) (v : Nat) : (s.reserve b v).plans = s.plans := by simp [State.reserve]
@[simp] theorem State.reserve_corner (s : State) (b : BinId) (v : Nat) :
    (s.reserve b v).corner = s.corner := by simp [State.corner]
@[simp] theorem State.reserve_lanePart (s : State) (b : BinId) (v : Nat) (k₀ : LaneId) :
    (s.reserve b v).lanePart k₀ = s.lanePart k₀ := by simp [State.lanePart]
@[simp] theorem State.reserve_binPart (s : State) (b : BinId) (v : Nat) (b₀ : BinId) :
    (s.reserve b v).binPart b₀ = s.binPart b₀ := by simp [State.binPart]
@[simp] theorem State.reserve_supply (s : State) (b : BinId) (v : Nat) : (s.reserve b v).supply = s.supply := by simp [State.reserve]
@[simp] theorem State.reserve_isUp (s : State) (b : BinId) (v : Nat) :
    (s.reserve b v).isUp = s.isUp := by simp [State.isUp]
@[simp] theorem State.reserve_inHoldUp (s : State) (b : BinId) (v : Nat) :
    (s.reserve b v).inHoldUp = s.inHoldUp := by simp [State.inHoldUp]
@[simp] theorem State.reserve_choices (s : State) (b : BinId) (v : Nat) : (s.reserve b v).choices = s.choices := by simp [State.reserve]
@[simp] theorem State.reserve_pending (s : State) (b : BinId) (v : Nat) : (s.reserve b v).pending = s.pending := by simp [State.reserve]

/-- A reservation raises the reserved fill of its bin and makes the WARN test (R104). -/
theorem State.reserve_bin (s : State) (b a : BinId) (v : Nat) :
    (s.reserve b v).bin a =
      if a = b then
        { s.bin b with
          reserved := (s.bin b).reserved + v
          warn := (s.bin b).warn ||
            decide ((s.bin b).warningMark ≤ (s.bin b).confirmed + (s.bin b).reserved + v) }
      else s.bin a := by
  unfold State.reserve
  rw [State.warnTest_bin]
  by_cases ha : a = b <;> simp [ha, Bin.sum, Nat.add_assoc]

@[simp] theorem State.drainIfEmpty_belt (s : State) (b : BinId) : (s.drainIfEmpty b).belt = s.belt := by unfold State.drainIfEmpty; dsimp only; split <;> (try split) <;> simp
@[simp] theorem State.drainIfEmpty_chute (s : State) (b : BinId) : (s.drainIfEmpty b).chute = s.chute := by unfold State.drainIfEmpty; dsimp only; split <;> (try split) <;> simp
@[simp] theorem State.drainIfEmpty_recog (s : State) (b : BinId) : (s.drainIfEmpty b).recog = s.recog := by unfold State.drainIfEmpty; dsimp only; split <;> (try split) <;> simp
@[simp] theorem State.drainIfEmpty_lanes (s : State) (b : BinId) : (s.drainIfEmpty b).lanes = s.lanes := by unfold State.drainIfEmpty; dsimp only; split <;> (try split) <;> simp
@[simp] theorem State.drainIfEmpty_lane (s : State) (b : BinId) (k₀ : LaneId) :
    (s.drainIfEmpty b).lane k₀ = s.lane k₀ := by simp [State.lane]
@[simp] theorem State.drainIfEmpty_merge (s : State) (b : BinId) : (s.drainIfEmpty b).merge = s.merge := by unfold State.drainIfEmpty; dsimp only; split <;> (try split) <;> simp
@[simp] theorem State.drainIfEmpty_claimOf (s : State) (b : BinId) (k₀ : LaneId) :
    (s.drainIfEmpty b).claimOf k₀ = s.claimOf k₀ := by simp [State.claimOf]
@[simp] theorem State.drainIfEmpty_transit (s : State) (b : BinId) : (s.drainIfEmpty b).transit = s.transit := by unfold State.drainIfEmpty; dsimp only; split <;> (try split) <;> simp
@[simp] theorem State.drainIfEmpty_occupancy (s : State) (b : BinId) :
    (s.drainIfEmpty b).occupancy = s.occupancy := by simp [State.occupancy]
@[simp] theorem State.drainIfEmpty_reject (s : State) (b : BinId) : (s.drainIfEmpty b).reject = s.reject := by unfold State.drainIfEmpty; dsimp only; split <;> (try split) <;> simp
@[simp] theorem State.drainIfEmpty_table (s : State) (b : BinId) : (s.drainIfEmpty b).table = s.table := by unfold State.drainIfEmpty; dsimp only; split <;> (try split) <;> simp
@[simp] theorem State.drainIfEmpty_plans (s : State) (b : BinId) : (s.drainIfEmpty b).plans = s.plans := by unfold State.drainIfEmpty; dsimp only; split <;> (try split) <;> simp
@[simp] theorem State.drainIfEmpty_corner (s : State) (b : BinId) :
    (s.drainIfEmpty b).corner = s.corner := by simp [State.corner]
@[simp] theorem State.drainIfEmpty_lanePart (s : State) (b : BinId) (k₀ : LaneId) :
    (s.drainIfEmpty b).lanePart k₀ = s.lanePart k₀ := by simp [State.lanePart]
@[simp] theorem State.drainIfEmpty_binPart (s : State) (b : BinId) (b₀ : BinId) :
    (s.drainIfEmpty b).binPart b₀ = s.binPart b₀ := by simp [State.binPart]
@[simp] theorem State.drainIfEmpty_supply (s : State) (b : BinId) : (s.drainIfEmpty b).supply = s.supply := by unfold State.drainIfEmpty; dsimp only; split <;> (try split) <;> simp
@[simp] theorem State.drainIfEmpty_isUp (s : State) (b : BinId) :
    (s.drainIfEmpty b).isUp = s.isUp := by simp [State.isUp]
@[simp] theorem State.drainIfEmpty_inHoldUp (s : State) (b : BinId) :
    (s.drainIfEmpty b).inHoldUp = s.inHoldUp := by simp [State.inHoldUp]
@[simp] theorem State.drainIfEmpty_choices (s : State) (b : BinId) : (s.drainIfEmpty b).choices = s.choices := by unfold State.drainIfEmpty; dsimp only; split <;> (try split) <;> simp
@[simp] theorem State.drainIfEmpty_pending (s : State) (b : BinId) : (s.drainIfEmpty b).pending = s.pending := by unfold State.drainIfEmpty; dsimp only; split <;> (try split) <;> simp

/-- A DRAINING bin with no reservation left takes its target; nothing else of the bins changes (R108). -/
theorem State.drainIfEmpty_bin (s : State) (b a : BinId) :
    (s.drainIfEmpty b).bin a =
      if a = b then
        { s.bin b with
          state := match (s.bin b).state with
            | .draining t => if (s.bin b).reserved = 0 then t.state else .draining t
            | st => st }
      else s.bin a := by
  unfold State.drainIfEmpty
  by_cases ha : a = b
  · subst ha
    rcases h : s.bin a with ⟨st, m, c, r, w, cf, rs, it, wn⟩
    cases st with
    | draining t => by_cases hr : rs = 0 <;> simp_all
    | out => simp_all
    | serving => simp_all
    | released => simp_all
  · simp only [ha, if_false]
    split
    · split <;> simp [ha]
    · rfl

/-- A completed drain sets the BIN notice and touches no other link (R108, R114). -/
theorem State.drainIfEmpty_port (s : State) (b : BinId) (l : Link) :
    (s.drainIfEmpty b).port l =
      if l = .office ∧ ((s.drainIfEmpty b).bin b).state ≠ (s.bin b).state then
        { s.port .office with notices := { (s.port .office).notices with bin := true } }
      else s.port l := by
  unfold State.drainIfEmpty
  by_cases hl : l = .office
  · subst hl
    rcases hs : (s.bin b).state with _ | _ | t | _ <;> by_cases hr : (s.bin b).reserved = 0 <;>
      simp [hs, hr, Notices.set]
    cases t <;> simp [DrainTarget.state]
  · simp only [hl, false_and, if_false]
    split
    · split <;> simp [hl]
    · rfl

@[simp] theorem State.confirmFill_belt (s : State) (b : BinId) (v : Nat) : (s.confirmFill b v).belt = s.belt := by simp [State.confirmFill]
@[simp] theorem State.confirmFill_chute (s : State) (b : BinId) (v : Nat) : (s.confirmFill b v).chute = s.chute := by simp [State.confirmFill]
@[simp] theorem State.confirmFill_recog (s : State) (b : BinId) (v : Nat) : (s.confirmFill b v).recog = s.recog := by simp [State.confirmFill]
@[simp] theorem State.confirmFill_lanes (s : State) (b : BinId) (v : Nat) : (s.confirmFill b v).lanes = s.lanes := by simp [State.confirmFill]
@[simp] theorem State.confirmFill_lane (s : State) (b : BinId) (v : Nat) (k₀ : LaneId) :
    (s.confirmFill b v).lane k₀ = s.lane k₀ := by simp [State.lane]
@[simp] theorem State.confirmFill_merge (s : State) (b : BinId) (v : Nat) : (s.confirmFill b v).merge = s.merge := by simp [State.confirmFill]
@[simp] theorem State.confirmFill_claimOf (s : State) (b : BinId) (v : Nat) (k₀ : LaneId) :
    (s.confirmFill b v).claimOf k₀ = s.claimOf k₀ := by simp [State.claimOf]
@[simp] theorem State.confirmFill_transit (s : State) (b : BinId) (v : Nat) : (s.confirmFill b v).transit = s.transit := by simp [State.confirmFill]
@[simp] theorem State.confirmFill_occupancy (s : State) (b : BinId) (v : Nat) :
    (s.confirmFill b v).occupancy = s.occupancy := by simp [State.occupancy]
@[simp] theorem State.confirmFill_reject (s : State) (b : BinId) (v : Nat) : (s.confirmFill b v).reject = s.reject := by simp [State.confirmFill]
@[simp] theorem State.confirmFill_table (s : State) (b : BinId) (v : Nat) : (s.confirmFill b v).table = s.table := by simp [State.confirmFill]
@[simp] theorem State.confirmFill_plans (s : State) (b : BinId) (v : Nat) : (s.confirmFill b v).plans = s.plans := by simp [State.confirmFill]
@[simp] theorem State.confirmFill_corner (s : State) (b : BinId) (v : Nat) :
    (s.confirmFill b v).corner = s.corner := by simp [State.corner]
@[simp] theorem State.confirmFill_lanePart (s : State) (b : BinId) (v : Nat) (k₀ : LaneId) :
    (s.confirmFill b v).lanePart k₀ = s.lanePart k₀ := by simp [State.lanePart]
@[simp] theorem State.confirmFill_binPart (s : State) (b : BinId) (v : Nat) (b₀ : BinId) :
    (s.confirmFill b v).binPart b₀ = s.binPart b₀ := by simp [State.binPart]
@[simp] theorem State.confirmFill_supply (s : State) (b : BinId) (v : Nat) : (s.confirmFill b v).supply = s.supply := by simp [State.confirmFill]
@[simp] theorem State.confirmFill_isUp (s : State) (b : BinId) (v : Nat) :
    (s.confirmFill b v).isUp = s.isUp := by simp [State.isUp]
@[simp] theorem State.confirmFill_inHoldUp (s : State) (b : BinId) (v : Nat) :
    (s.confirmFill b v).inHoldUp = s.inHoldUp := by simp [State.inHoldUp]
@[simp] theorem State.confirmFill_choices (s : State) (b : BinId) (v : Nat) : (s.confirmFill b v).choices = s.choices := by simp [State.confirmFill]
@[simp] theorem State.confirmFill_pending (s : State) (b : BinId) (v : Nat) : (s.confirmFill b v).pending = s.pending := by simp [State.confirmFill]
@[simp] theorem State.releaseFill_belt (s : State) (b : BinId) (v : Nat) : (s.releaseFill b v).belt = s.belt := by simp [State.releaseFill]
@[simp] theorem State.releaseFill_chute (s : State) (b : BinId) (v : Nat) : (s.releaseFill b v).chute = s.chute := by simp [State.releaseFill]
@[simp] theorem State.releaseFill_recog (s : State) (b : BinId) (v : Nat) : (s.releaseFill b v).recog = s.recog := by simp [State.releaseFill]
@[simp] theorem State.releaseFill_lanes (s : State) (b : BinId) (v : Nat) : (s.releaseFill b v).lanes = s.lanes := by simp [State.releaseFill]
@[simp] theorem State.releaseFill_lane (s : State) (b : BinId) (v : Nat) (k₀ : LaneId) :
    (s.releaseFill b v).lane k₀ = s.lane k₀ := by simp [State.lane]
@[simp] theorem State.releaseFill_merge (s : State) (b : BinId) (v : Nat) : (s.releaseFill b v).merge = s.merge := by simp [State.releaseFill]
@[simp] theorem State.releaseFill_claimOf (s : State) (b : BinId) (v : Nat) (k₀ : LaneId) :
    (s.releaseFill b v).claimOf k₀ = s.claimOf k₀ := by simp [State.claimOf]
@[simp] theorem State.releaseFill_transit (s : State) (b : BinId) (v : Nat) : (s.releaseFill b v).transit = s.transit := by simp [State.releaseFill]
@[simp] theorem State.releaseFill_occupancy (s : State) (b : BinId) (v : Nat) :
    (s.releaseFill b v).occupancy = s.occupancy := by simp [State.occupancy]
@[simp] theorem State.releaseFill_reject (s : State) (b : BinId) (v : Nat) : (s.releaseFill b v).reject = s.reject := by simp [State.releaseFill]
@[simp] theorem State.releaseFill_table (s : State) (b : BinId) (v : Nat) : (s.releaseFill b v).table = s.table := by simp [State.releaseFill]
@[simp] theorem State.releaseFill_plans (s : State) (b : BinId) (v : Nat) : (s.releaseFill b v).plans = s.plans := by simp [State.releaseFill]
@[simp] theorem State.releaseFill_corner (s : State) (b : BinId) (v : Nat) :
    (s.releaseFill b v).corner = s.corner := by simp [State.corner]
@[simp] theorem State.releaseFill_lanePart (s : State) (b : BinId) (v : Nat) (k₀ : LaneId) :
    (s.releaseFill b v).lanePart k₀ = s.lanePart k₀ := by simp [State.lanePart]
@[simp] theorem State.releaseFill_binPart (s : State) (b : BinId) (v : Nat) (b₀ : BinId) :
    (s.releaseFill b v).binPart b₀ = s.binPart b₀ := by simp [State.binPart]
@[simp] theorem State.releaseFill_supply (s : State) (b : BinId) (v : Nat) : (s.releaseFill b v).supply = s.supply := by simp [State.releaseFill]
@[simp] theorem State.releaseFill_isUp (s : State) (b : BinId) (v : Nat) :
    (s.releaseFill b v).isUp = s.isUp := by simp [State.isUp]
@[simp] theorem State.releaseFill_inHoldUp (s : State) (b : BinId) (v : Nat) :
    (s.releaseFill b v).inHoldUp = s.inHoldUp := by simp [State.inHoldUp]
@[simp] theorem State.releaseFill_choices (s : State) (b : BinId) (v : Nat) : (s.releaseFill b v).choices = s.choices := by simp [State.releaseFill]
@[simp] theorem State.releaseFill_pending (s : State) (b : BinId) (v : Nat) : (s.releaseFill b v).pending = s.pending := by simp [State.releaseFill]

/-! ### Requests (R156 to R159) -/

/-- A request on a link that takes it in NORMAL reaches its owner, with the receiver idle and an office cursor closed. -/
theorem State.requestCompletes_taken (s : State) (l : Link) (k : ReqKind) (n : Nat) (take : State → State)
    (hu : s.isUp = true) (hq : (s.port l).outQueue.length < 3) (hn : k.lengthOk n = true)
    (hb : (s.port l).passesBusy k = true) (hs : s.inHoldUp = false) :
    s.requestCompletes l k n take =
      take (if closesCursor l k then (s.setReceiver l .idle).closeCursor else s.setReceiver l .idle) := by
  have hq' : ¬ Config.discardAt ≤ (s.port l).outQueue.length := by simp [Config.discardAt]; omega
  have hb' : LinkPort.passesBusy { s.port l with receiver := Receiver.idle } k = true := hb
  by_cases hc : closesCursor l k = true <;>
    simp [State.requestCompletes, State.frameCompletes, State.testRequest, State.handOn, State.whenUp, hu, hq', hn, hb',
      hs, hc]

/-- A request in HOLD-UP is refused POWER, but for CORNER-STATUS, with an office cursor closed (R151, R32). -/
theorem State.requestCompletes_power (s : State) (l : Link) (k : ReqKind) (n : Nat) (take : State → State)
    (hu : s.isUp = true) (hq : (s.port l).outQueue.length < 3) (hn : k.lengthOk n = true)
    (hb : (s.port l).passesBusy k = true) (hs : s.inHoldUp = true) (hk : k ≠ .cornerStatus) :
    s.requestCompletes l k n take =
      (if closesCursor l k then (s.setReceiver l .idle).closeCursor else s.setReceiver l .idle).refuse l k.code
        .power := by
  have hq' : ¬ Config.discardAt ≤ (s.port l).outQueue.length := by simp [Config.discardAt]; omega
  have hb' : LinkPort.passesBusy { s.port l with receiver := Receiver.idle } k = true := hb
  by_cases hc : closesCursor l k = true <;>
    simp [State.requestCompletes, State.frameCompletes, State.testRequest, State.handOn, State.whenUp, hu, hq', hn, hb',
      hs, hc, hk]

/-- A request that finds three frames waiting is discarded (R159). -/
theorem State.requestCompletes_discarded (s : State) (l : Link) (k : ReqKind) (n : Nat) (take : State → State)
    (hu : s.isUp = true) (hq : 3 ≤ (s.port l).outQueue.length) :
    s.requestCompletes l k n take = s.setReceiver l .idle := by
  simp [State.requestCompletes, State.frameCompletes, State.whenUp, hu, Config.discardAt, hq]

/-- While the part is down a request is not taken (R146). -/
theorem State.requestCompletes_down (s : State) (l : Link) (k : ReqKind) (n : Nat) (take : State → State)
    (hu : s.isUp = false) : s.requestCompletes l k n take = s := by
  simp [State.requestCompletes, State.frameCompletes, State.whenUp, hu]

end Sys2Proof.Machine
end

