-- ==== Sys2Proof/Laws/Session.lean ====
section
/-! SUPPORT. What the shared operations of sessions, merges and the gate can do, and the parts of the state that they leave. -/

namespace Sys2Proof.Machine

/-! ### Session closes (R49) -/

@[simp] theorem State.answerEnd_belt (s : State) (k : LaneId) (r : Response) : (s.answerEnd k r).belt = s.belt := by unfold State.answerEnd; split <;> simp
@[simp] theorem State.answerEnd_chute (s : State) (k : LaneId) (r : Response) : (s.answerEnd k r).chute = s.chute := by unfold State.answerEnd; split <;> simp
@[simp] theorem State.answerEnd_recog (s : State) (k : LaneId) (r : Response) : (s.answerEnd k r).recog = s.recog := by unfold State.answerEnd; split <;> simp
@[simp] theorem State.answerEnd_lanes (s : State) (k : LaneId) (r : Response) : (s.answerEnd k r).lanes = s.lanes := by unfold State.answerEnd; split <;> simp
@[simp] theorem State.answerEnd_lane (s : State) (k : LaneId) (r : Response) (k₀ : LaneId) :
    (s.answerEnd k r).lane k₀ = s.lane k₀ := by simp [State.lane]
@[simp] theorem State.answerEnd_merge (s : State) (k : LaneId) (r : Response) : (s.answerEnd k r).merge = s.merge := by unfold State.answerEnd; split <;> simp
@[simp] theorem State.answerEnd_claimOf (s : State) (k : LaneId) (r : Response) (k₀ : LaneId) :
    (s.answerEnd k r).claimOf k₀ = s.claimOf k₀ := by simp [State.claimOf]
@[simp] theorem State.answerEnd_transit (s : State) (k : LaneId) (r : Response) : (s.answerEnd k r).transit = s.transit := by unfold State.answerEnd; split <;> simp
@[simp] theorem State.answerEnd_occupancy (s : State) (k : LaneId) (r : Response) :
    (s.answerEnd k r).occupancy = s.occupancy := by simp [State.occupancy]
@[simp] theorem State.answerEnd_bins (s : State) (k : LaneId) (r : Response) : (s.answerEnd k r).bins = s.bins := by unfold State.answerEnd; split <;> simp
@[simp] theorem State.answerEnd_bin (s : State) (k : LaneId) (r : Response) (b₀ : BinId) :
    (s.answerEnd k r).bin b₀ = s.bin b₀ := by simp [State.bin]
@[simp] theorem State.answerEnd_reject (s : State) (k : LaneId) (r : Response) : (s.answerEnd k r).reject = s.reject := by unfold State.answerEnd; split <;> simp
@[simp] theorem State.answerEnd_table (s : State) (k : LaneId) (r : Response) : (s.answerEnd k r).table = s.table := by unfold State.answerEnd; split <;> simp
@[simp] theorem State.answerEnd_plans (s : State) (k : LaneId) (r : Response) : (s.answerEnd k r).plans = s.plans := by unfold State.answerEnd; split <;> simp
@[simp] theorem State.answerEnd_corner (s : State) (k : LaneId) (r : Response) :
    (s.answerEnd k r).corner = s.corner := by simp [State.corner]
@[simp] theorem State.answerEnd_lanePart (s : State) (k : LaneId) (r : Response) (k₀ : LaneId) :
    (s.answerEnd k r).lanePart k₀ = s.lanePart k₀ := by simp [State.lanePart]
@[simp] theorem State.answerEnd_binPart (s : State) (k : LaneId) (r : Response) (b₀ : BinId) :
    (s.answerEnd k r).binPart b₀ = s.binPart b₀ := by simp [State.binPart]
@[simp] theorem State.answerEnd_supply (s : State) (k : LaneId) (r : Response) : (s.answerEnd k r).supply = s.supply := by unfold State.answerEnd; split <;> simp
@[simp] theorem State.answerEnd_isUp (s : State) (k : LaneId) (r : Response) :
    (s.answerEnd k r).isUp = s.isUp := by simp [State.isUp]
@[simp] theorem State.answerEnd_inHoldUp (s : State) (k : LaneId) (r : Response) :
    (s.answerEnd k r).inHoldUp = s.inHoldUp := by simp [State.inHoldUp]
@[simp] theorem State.answerEnd_choices (s : State) (k : LaneId) (r : Response) : (s.answerEnd k r).choices = s.choices := by unfold State.answerEnd; split <;> simp
@[simp] theorem State.answerEnd_pending (s : State) (k : LaneId) (r : Response) : (s.answerEnd k r).pending = s.pending := by unfold State.answerEnd; split <;> simp

@[simp] theorem State.answerEnd_port_ne (s : State) {k : LaneId} {m : Link} (r : Response) (h : m ≠ .lane k) :
    (s.answerEnd k r).port m = s.port m := by
  unfold State.answerEnd; split <;> simp [h]

@[simp] theorem State.closeSession_belt (s : State) (k : LaneId) (p : Bool) : (s.closeSession k p).belt = s.belt := by unfold State.closeSession; dsimp only; split <;> simp
@[simp] theorem State.closeSession_chute (s : State) (k : LaneId) (p : Bool) : (s.closeSession k p).chute = s.chute := by unfold State.closeSession; dsimp only; split <;> simp
@[simp] theorem State.closeSession_recog (s : State) (k : LaneId) (p : Bool) : (s.closeSession k p).recog = s.recog := by unfold State.closeSession; dsimp only; split <;> simp
@[simp] theorem State.closeSession_merge (s : State) (k : LaneId) (p : Bool) : (s.closeSession k p).merge = s.merge := by unfold State.closeSession; dsimp only; split <;> simp
@[simp] theorem State.closeSession_claimOf (s : State) (k : LaneId) (p : Bool) (k₀ : LaneId) :
    (s.closeSession k p).claimOf k₀ = s.claimOf k₀ := by simp [State.claimOf]
@[simp] theorem State.closeSession_bins (s : State) (k : LaneId) (p : Bool) : (s.closeSession k p).bins = s.bins := by unfold State.closeSession; dsimp only; split <;> simp
@[simp] theorem State.closeSession_bin (s : State) (k : LaneId) (p : Bool) (b₀ : BinId) :
    (s.closeSession k p).bin b₀ = s.bin b₀ := by simp [State.bin]
@[simp] theorem State.closeSession_reject (s : State) (k : LaneId) (p : Bool) : (s.closeSession k p).reject = s.reject := by unfold State.closeSession; dsimp only; split <;> simp
@[simp] theorem State.closeSession_plans (s : State) (k : LaneId) (p : Bool) : (s.closeSession k p).plans = s.plans := by unfold State.closeSession; dsimp only; split <;> simp
@[simp] theorem State.closeSession_corner (s : State) (k : LaneId) (p : Bool) :
    (s.closeSession k p).corner = s.corner := by simp [State.corner]
@[simp] theorem State.closeSession_lanePart (s : State) (k : LaneId) (p : Bool) (k₀ : LaneId) :
    (s.closeSession k p).lanePart k₀ = s.lanePart k₀ := by simp [State.lanePart]
@[simp] theorem State.closeSession_binPart (s : State) (k : LaneId) (p : Bool) (b₀ : BinId) :
    (s.closeSession k p).binPart b₀ = s.binPart b₀ := by simp [State.binPart]
@[simp] theorem State.closeSession_supply (s : State) (k : LaneId) (p : Bool) : (s.closeSession k p).supply = s.supply := by unfold State.closeSession; dsimp only; split <;> simp
@[simp] theorem State.closeSession_isUp (s : State) (k : LaneId) (p : Bool) :
    (s.closeSession k p).isUp = s.isUp := by simp [State.isUp]
@[simp] theorem State.closeSession_inHoldUp (s : State) (k : LaneId) (p : Bool) :
    (s.closeSession k p).inHoldUp = s.inHoldUp := by simp [State.inHoldUp]
@[simp] theorem State.closeSession_choices (s : State) (k : LaneId) (p : Bool) : (s.closeSession k p).choices = s.choices := by unfold State.closeSession; dsimp only; split <;> simp
@[simp] theorem State.closeSession_pending (s : State) (k : LaneId) (p : Bool) : (s.closeSession k p).pending = s.pending := by unfold State.closeSession; dsimp only; split <;> simp

/-- A close detaches every record of the lane (R52). -/
@[simp] theorem State.closeSession_transit (s : State) (k : LaneId) (p : Bool) :
    (s.closeSession k p).transit = detachAll k s.transit := by
  unfold State.closeSession; dsimp only; split <;> simp

/-- A close hands the slot back, as a voucher or onto the stack (R49 step 2). -/
theorem State.closeSession_table (s : State) (k : LaneId) (p : Bool) :
    (s.closeSession k p).table =
      match (s.lane k).slot with
      | some i => s.table.settleSlot i ((s.lane k).closeVoucher k p)
      | none => s.table := by
  unfold State.closeSession; dsimp only; split <;> simp <;> rfl

/-- A close leaves the lane with its close record in PARKED or READY (R49 steps 4 to 6), and no other lane. -/
theorem State.closeSession_lane (s : State) (k j : LaneId) (p : Bool) :
    (s.closeSession k p).lane j =
      if j = k then
        .afterClose ((s.lane k).parkPending || p) ((s.lane k).closeRecord k p (s.closeSession k p).table)
      else s.lane j := by
  have ht := s.closeSession_table k p
  rw [ht]
  by_cases h : j = k
  · subst h
    unfold State.closeSession
    dsimp only
    split <;> simp <;> rfl
  · unfold State.closeSession
    dsimp only
    simp only [h, if_false]
    split <;> simp [h]

/-- A close touches no link but its lane's. -/
theorem State.closeSession_port_ne (s : State) {k : LaneId} {m : Link} (p : Bool) (h : m ≠ .lane k) :
    (s.closeSession k p).port m = s.port m := by
  unfold State.closeSession; dsimp only; split <;> simp [h]

/-- A close answers an END in flight, and sets the STATE notice where the lane parks (R49, R57). -/
theorem State.closeSession_port (s : State) (k : LaneId) (p : Bool) :
    (s.closeSession k p).port (.lane k) =
      let record := (s.lane k).closeRecord k p (s.closeSession k p).table
      let q := if (s.port (.lane k)).inFlight = some .endSession then
          { (s.port (.lane k)).enqueue record.response.frame with inFlight := none }
        else s.port (.lane k)
      if (s.lane k).parkPending || p then { q with notices := { q.notices with state := true } } else q := by
  rw [s.closeSession_table k p]
  unfold State.closeSession State.answerEnd
  rcases hs : (s.lane k).slot with _ | i
  all_goals
    by_cases he : (s.port (.lane k)).inFlight = some .endSession <;>
    by_cases hp : ((s.lane k).parkPending || p) = true <;>
    simp only [State.port, State.setLane, hp, if_true] at he ⊢ <;>
    simp_all [State.answer, State.raise, State.port, State.setPort, Notices.set]

@[simp] theorem State.ordinaryClose_belt (s : State) (k : LaneId) : (s.ordinaryClose k).belt = s.belt := by simp [State.ordinaryClose]
@[simp] theorem State.ordinaryClose_chute (s : State) (k : LaneId) : (s.ordinaryClose k).chute = s.chute := by simp [State.ordinaryClose]
@[simp] theorem State.ordinaryClose_recog (s : State) (k : LaneId) : (s.ordinaryClose k).recog = s.recog := by simp [State.ordinaryClose]
@[simp] theorem State.ordinaryClose_merge (s : State) (k : LaneId) : (s.ordinaryClose k).merge = s.merge := by simp [State.ordinaryClose]
@[simp] theorem State.ordinaryClose_claimOf (s : State) (k : LaneId) (k₀ : LaneId) :
    (s.ordinaryClose k).claimOf k₀ = s.claimOf k₀ := by simp [State.claimOf]
@[simp] theorem State.ordinaryClose_bins (s : State) (k : LaneId) : (s.ordinaryClose k).bins = s.bins := by simp [State.ordinaryClose]
@[simp] theorem State.ordinaryClose_bin (s : State) (k : LaneId) (b₀ : BinId) :
    (s.ordinaryClose k).bin b₀ = s.bin b₀ := by simp [State.bin]
@[simp] theorem State.ordinaryClose_reject (s : State) (k : LaneId) : (s.ordinaryClose k).reject = s.reject := by simp [State.ordinaryClose]
@[simp] theorem State.ordinaryClose_plans (s : State) (k : LaneId) : (s.ordinaryClose k).plans = s.plans := by simp [State.ordinaryClose]
@[simp] theorem State.ordinaryClose_corner (s : State) (k : LaneId) :
    (s.ordinaryClose k).corner = s.corner := by simp [State.corner]
@[simp] theorem State.ordinaryClose_lanePart (s : State) (k : LaneId) (k₀ : LaneId) :
    (s.ordinaryClose k).lanePart k₀ = s.lanePart k₀ := by simp [State.lanePart]
@[simp] theorem State.ordinaryClose_binPart (s : State) (k : LaneId) (b₀ : BinId) :
    (s.ordinaryClose k).binPart b₀ = s.binPart b₀ := by simp [State.binPart]
@[simp] theorem State.ordinaryClose_supply (s : State) (k : LaneId) : (s.ordinaryClose k).supply = s.supply := by simp [State.ordinaryClose]
@[simp] theorem State.ordinaryClose_isUp (s : State) (k : LaneId) :
    (s.ordinaryClose k).isUp = s.isUp := by simp [State.isUp]
@[simp] theorem State.ordinaryClose_inHoldUp (s : State) (k : LaneId) :
    (s.ordinaryClose k).inHoldUp = s.inHoldUp := by simp [State.inHoldUp]
@[simp] theorem State.ordinaryClose_choices (s : State) (k : LaneId) : (s.ordinaryClose k).choices = s.choices := by simp [State.ordinaryClose]
@[simp] theorem State.ordinaryClose_pending (s : State) (k : LaneId) : (s.ordinaryClose k).pending = s.pending := by simp [State.ordinaryClose]

@[simp] theorem State.limitClose_belt (s : State) (k : LaneId) : (s.limitClose k).belt = s.belt := by simp [State.limitClose]
@[simp] theorem State.limitClose_chute (s : State) (k : LaneId) : (s.limitClose k).chute = s.chute := by simp [State.limitClose]
@[simp] theorem State.limitClose_recog (s : State) (k : LaneId) : (s.limitClose k).recog = s.recog := by simp [State.limitClose]
@[simp] theorem State.limitClose_merge (s : State) (k : LaneId) : (s.limitClose k).merge = s.merge := by simp [State.limitClose]
@[simp] theorem State.limitClose_claimOf (s : State) (k : LaneId) (k₀ : LaneId) :
    (s.limitClose k).claimOf k₀ = s.claimOf k₀ := by simp [State.claimOf]
@[simp] theorem State.limitClose_bins (s : State) (k : LaneId) : (s.limitClose k).bins = s.bins := by simp [State.limitClose]
@[simp] theorem State.limitClose_bin (s : State) (k : LaneId) (b₀ : BinId) :
    (s.limitClose k).bin b₀ = s.bin b₀ := by simp [State.bin]
@[simp] theorem State.limitClose_reject (s : State) (k : LaneId) : (s.limitClose k).reject = s.reject := by simp [State.limitClose]
@[simp] theorem State.limitClose_plans (s : State) (k : LaneId) : (s.limitClose k).plans = s.plans := by simp [State.limitClose]
@[simp] theorem State.limitClose_corner (s : State) (k : LaneId) :
    (s.limitClose k).corner = s.corner := by simp [State.corner]
@[simp] theorem State.limitClose_lanePart (s : State) (k : LaneId) (k₀ : LaneId) :
    (s.limitClose k).lanePart k₀ = s.lanePart k₀ := by simp [State.lanePart]
@[simp] theorem State.limitClose_binPart (s : State) (k : LaneId) (b₀ : BinId) :
    (s.limitClose k).binPart b₀ = s.binPart b₀ := by simp [State.binPart]
@[simp] theorem State.limitClose_supply (s : State) (k : LaneId) : (s.limitClose k).supply = s.supply := by simp [State.limitClose]
@[simp] theorem State.limitClose_isUp (s : State) (k : LaneId) :
    (s.limitClose k).isUp = s.isUp := by simp [State.isUp]
@[simp] theorem State.limitClose_inHoldUp (s : State) (k : LaneId) :
    (s.limitClose k).inHoldUp = s.inHoldUp := by simp [State.inHoldUp]
@[simp] theorem State.limitClose_choices (s : State) (k : LaneId) : (s.limitClose k).choices = s.choices := by simp [State.limitClose]
@[simp] theorem State.limitClose_pending (s : State) (k : LaneId) : (s.limitClose k).pending = s.pending := by simp [State.limitClose]

@[simp] theorem State.supplyClose_belt (s : State) (k : LaneId) : (s.supplyClose k).belt = s.belt := by simp [State.supplyClose]
@[simp] theorem State.supplyClose_chute (s : State) (k : LaneId) : (s.supplyClose k).chute = s.chute := by simp [State.supplyClose]
@[simp] theorem State.supplyClose_recog (s : State) (k : LaneId) : (s.supplyClose k).recog = s.recog := by simp [State.supplyClose]
@[simp] theorem State.supplyClose_merge (s : State) (k : LaneId) : (s.supplyClose k).merge = s.merge := by simp [State.supplyClose]
@[simp] theorem State.supplyClose_claimOf (s : State) (k : LaneId) (k₀ : LaneId) :
    (s.supplyClose k).claimOf k₀ = s.claimOf k₀ := by simp [State.claimOf]
@[simp] theorem State.supplyClose_bins (s : State) (k : LaneId) : (s.supplyClose k).bins = s.bins := by simp [State.supplyClose]
@[simp] theorem State.supplyClose_bin (s : State) (k : LaneId) (b₀ : BinId) :
    (s.supplyClose k).bin b₀ = s.bin b₀ := by simp [State.bin]
@[simp] theorem State.supplyClose_reject (s : State) (k : LaneId) : (s.supplyClose k).reject = s.reject := by simp [State.supplyClose]
@[simp] theorem State.supplyClose_plans (s : State) (k : LaneId) : (s.supplyClose k).plans = s.plans := by simp [State.supplyClose]
@[simp] theorem State.supplyClose_corner (s : State) (k : LaneId) :
    (s.supplyClose k).corner = s.corner := by simp [State.corner]
@[simp] theorem State.supplyClose_lanePart (s : State) (k : LaneId) (k₀ : LaneId) :
    (s.supplyClose k).lanePart k₀ = s.lanePart k₀ := by simp [State.lanePart]
@[simp] theorem State.supplyClose_binPart (s : State) (k : LaneId) (b₀ : BinId) :
    (s.supplyClose k).binPart b₀ = s.binPart b₀ := by simp [State.binPart]
@[simp] theorem State.supplyClose_supply (s : State) (k : LaneId) : (s.supplyClose k).supply = s.supply := by simp [State.supplyClose]
@[simp] theorem State.supplyClose_isUp (s : State) (k : LaneId) :
    (s.supplyClose k).isUp = s.isUp := by simp [State.isUp]
@[simp] theorem State.supplyClose_inHoldUp (s : State) (k : LaneId) :
    (s.supplyClose k).inHoldUp = s.inHoldUp := by simp [State.inHoldUp]
@[simp] theorem State.supplyClose_choices (s : State) (k : LaneId) : (s.supplyClose k).choices = s.choices := by simp [State.supplyClose]
@[simp] theorem State.supplyClose_pending (s : State) (k : LaneId) : (s.supplyClose k).pending = s.pending := by simp [State.supplyClose]

@[simp] theorem State.closeIfSettled_belt (s : State) (k : LaneId) : (s.closeIfSettled k).belt = s.belt := by unfold State.closeIfSettled; split <;> simp
@[simp] theorem State.closeIfSettled_chute (s : State) (k : LaneId) : (s.closeIfSettled k).chute = s.chute := by unfold State.closeIfSettled; split <;> simp
@[simp] theorem State.closeIfSettled_recog (s : State) (k : LaneId) : (s.closeIfSettled k).recog = s.recog := by unfold State.closeIfSettled; split <;> simp
@[simp] theorem State.closeIfSettled_merge (s : State) (k : LaneId) : (s.closeIfSettled k).merge = s.merge := by unfold State.closeIfSettled; split <;> simp
@[simp] theorem State.closeIfSettled_claimOf (s : State) (k : LaneId) (k₀ : LaneId) :
    (s.closeIfSettled k).claimOf k₀ = s.claimOf k₀ := by simp [State.claimOf]
@[simp] theorem State.closeIfSettled_bins (s : State) (k : LaneId) : (s.closeIfSettled k).bins = s.bins := by unfold State.closeIfSettled; split <;> simp
@[simp] theorem State.closeIfSettled_bin (s : State) (k : LaneId) (b₀ : BinId) :
    (s.closeIfSettled k).bin b₀ = s.bin b₀ := by simp [State.bin]
@[simp] theorem State.closeIfSettled_reject (s : State) (k : LaneId) : (s.closeIfSettled k).reject = s.reject := by unfold State.closeIfSettled; split <;> simp
@[simp] theorem State.closeIfSettled_plans (s : State) (k : LaneId) : (s.closeIfSettled k).plans = s.plans := by unfold State.closeIfSettled; split <;> simp
@[simp] theorem State.closeIfSettled_corner (s : State) (k : LaneId) :
    (s.closeIfSettled k).corner = s.corner := by simp [State.corner]
@[simp] theorem State.closeIfSettled_lanePart (s : State) (k : LaneId) (k₀ : LaneId) :
    (s.closeIfSettled k).lanePart k₀ = s.lanePart k₀ := by simp [State.lanePart]
@[simp] theorem State.closeIfSettled_binPart (s : State) (k : LaneId) (b₀ : BinId) :
    (s.closeIfSettled k).binPart b₀ = s.binPart b₀ := by simp [State.binPart]
@[simp] theorem State.closeIfSettled_supply (s : State) (k : LaneId) : (s.closeIfSettled k).supply = s.supply := by unfold State.closeIfSettled; split <;> simp
@[simp] theorem State.closeIfSettled_isUp (s : State) (k : LaneId) :
    (s.closeIfSettled k).isUp = s.isUp := by simp [State.isUp]
@[simp] theorem State.closeIfSettled_inHoldUp (s : State) (k : LaneId) :
    (s.closeIfSettled k).inHoldUp = s.inHoldUp := by simp [State.inHoldUp]
@[simp] theorem State.closeIfSettled_choices (s : State) (k : LaneId) : (s.closeIfSettled k).choices = s.choices := by unfold State.closeIfSettled; split <;> simp
@[simp] theorem State.closeIfSettled_pending (s : State) (k : LaneId) : (s.closeIfSettled k).pending = s.pending := by unfold State.closeIfSettled; split <;> simp

/-! ### Merges (R72, R75) -/

@[simp] theorem State.insertRecord_belt (s : State) (r : TransitRecord) : (s.insertRecord r).belt = s.belt := by simp [State.insertRecord]
@[simp] theorem State.insertRecord_chute (s : State) (r : TransitRecord) : (s.insertRecord r).chute = s.chute := by simp [State.insertRecord]
@[simp] theorem State.insertRecord_recog (s : State) (r : TransitRecord) : (s.insertRecord r).recog = s.recog := by simp [State.insertRecord]
@[simp] theorem State.insertRecord_lanes (s : State) (r : TransitRecord) : (s.insertRecord r).lanes = s.lanes := by simp [State.insertRecord]
@[simp] theorem State.insertRecord_lane (s : State) (r : TransitRecord) (k₀ : LaneId) :
    (s.insertRecord r).lane k₀ = s.lane k₀ := by simp [State.lane]
@[simp] theorem State.insertRecord_bins (s : State) (r : TransitRecord) : (s.insertRecord r).bins = s.bins := by simp [State.insertRecord]
@[simp] theorem State.insertRecord_bin (s : State) (r : TransitRecord) (b₀ : BinId) :
    (s.insertRecord r).bin b₀ = s.bin b₀ := by simp [State.bin]
@[simp] theorem State.insertRecord_reject (s : State) (r : TransitRecord) : (s.insertRecord r).reject = s.reject := by simp [State.insertRecord]
@[simp] theorem State.insertRecord_table (s : State) (r : TransitRecord) : (s.insertRecord r).table = s.table := by simp [State.insertRecord]
@[simp] theorem State.insertRecord_plans (s : State) (r : TransitRecord) : (s.insertRecord r).plans = s.plans := by simp [State.insertRecord]
@[simp] theorem State.insertRecord_corner (s : State) (r : TransitRecord) :
    (s.insertRecord r).corner = s.corner := by simp [State.corner]
@[simp] theorem State.insertRecord_lanePart (s : State) (r : TransitRecord) (k₀ : LaneId) :
    (s.insertRecord r).lanePart k₀ = s.lanePart k₀ := by simp [State.lanePart]
@[simp] theorem State.insertRecord_binPart (s : State) (r : TransitRecord) (b₀ : BinId) :
    (s.insertRecord r).binPart b₀ = s.binPart b₀ := by simp [State.binPart]
@[simp] theorem State.insertRecord_supply (s : State) (r : TransitRecord) : (s.insertRecord r).supply = s.supply := by simp [State.insertRecord]
@[simp] theorem State.insertRecord_isUp (s : State) (r : TransitRecord) :
    (s.insertRecord r).isUp = s.isUp := by simp [State.isUp]
@[simp] theorem State.insertRecord_inHoldUp (s : State) (r : TransitRecord) :
    (s.insertRecord r).inHoldUp = s.inHoldUp := by simp [State.inHoldUp]
@[simp] theorem State.insertRecord_choices (s : State) (r : TransitRecord) : (s.insertRecord r).choices = s.choices := by simp [State.insertRecord]
@[simp] theorem State.insertRecord_pending (s : State) (r : TransitRecord) : (s.insertRecord r).pending = s.pending := by simp [State.insertRecord]

@[simp] theorem State.grant_belt (s : State) (c : Claim) (b : BinId) : (s.grant c b).belt = s.belt := by simp [State.grant]
@[simp] theorem State.grant_chute (s : State) (c : Claim) (b : BinId) : (s.grant c b).chute = s.chute := by simp [State.grant]
@[simp] theorem State.grant_recog (s : State) (c : Claim) (b : BinId) : (s.grant c b).recog = s.recog := by simp [State.grant]
@[simp] theorem State.grant_reject (s : State) (c : Claim) (b : BinId) : (s.grant c b).reject = s.reject := by simp [State.grant]
@[simp] theorem State.grant_table (s : State) (c : Claim) (b : BinId) : (s.grant c b).table = s.table := by simp [State.grant]
@[simp] theorem State.grant_plans (s : State) (c : Claim) (b : BinId) : (s.grant c b).plans = s.plans := by simp [State.grant]
@[simp] theorem State.grant_corner (s : State) (c : Claim) (b : BinId) :
    (s.grant c b).corner = s.corner := by simp [State.corner]
@[simp] theorem State.grant_lanePart (s : State) (c : Claim) (b : BinId) (k₀ : LaneId) :
    (s.grant c b).lanePart k₀ = s.lanePart k₀ := by simp [State.lanePart]
@[simp] theorem State.grant_binPart (s : State) (c : Claim) (b : BinId) (b₀ : BinId) :
    (s.grant c b).binPart b₀ = s.binPart b₀ := by simp [State.binPart]
@[simp] theorem State.grant_supply (s : State) (c : Claim) (b : BinId) : (s.grant c b).supply = s.supply := by simp [State.grant]
@[simp] theorem State.grant_isUp (s : State) (c : Claim) (b : BinId) :
    (s.grant c b).isUp = s.isUp := by simp [State.isUp]
@[simp] theorem State.grant_inHoldUp (s : State) (c : Claim) (b : BinId) :
    (s.grant c b).inHoldUp = s.inHoldUp := by simp [State.inHoldUp]
@[simp] theorem State.grant_choices (s : State) (c : Claim) (b : BinId) : (s.grant c b).choices = s.choices := by simp [State.grant]
@[simp] theorem State.grant_pending (s : State) (c : Claim) (b : BinId) : (s.grant c b).pending = s.pending := by simp [State.grant]

@[simp] theorem State.decideClaim_belt (s : State) (c : Claim) : (s.decideClaim c).belt = s.belt := by
  unfold State.decideClaim; split
  · split <;> simp
  · rfl
@[simp] theorem State.decideClaim_chute (s : State) (c : Claim) : (s.decideClaim c).chute = s.chute := by
  unfold State.decideClaim; split
  · split <;> simp
  · rfl
@[simp] theorem State.decideClaim_recog (s : State) (c : Claim) : (s.decideClaim c).recog = s.recog := by
  unfold State.decideClaim; split
  · split <;> simp
  · rfl
@[simp] theorem State.decideClaim_reject (s : State) (c : Claim) : (s.decideClaim c).reject = s.reject := by
  unfold State.decideClaim; split
  · split <;> simp
  · rfl
@[simp] theorem State.decideClaim_table (s : State) (c : Claim) : (s.decideClaim c).table = s.table := by
  unfold State.decideClaim; split
  · split <;> simp
  · rfl
@[simp] theorem State.decideClaim_plans (s : State) (c : Claim) : (s.decideClaim c).plans = s.plans := by
  unfold State.decideClaim; split
  · split <;> simp
  · rfl
@[simp] theorem State.decideClaim_corner (s : State) (c : Claim) :
    (s.decideClaim c).corner = s.corner := by simp [State.corner]
@[simp] theorem State.decideClaim_lanePart (s : State) (c : Claim) (k₀ : LaneId) :
    (s.decideClaim c).lanePart k₀ = s.lanePart k₀ := by simp [State.lanePart]
@[simp] theorem State.decideClaim_binPart (s : State) (c : Claim) (b₀ : BinId) :
    (s.decideClaim c).binPart b₀ = s.binPart b₀ := by simp [State.binPart]
@[simp] theorem State.decideClaim_supply (s : State) (c : Claim) : (s.decideClaim c).supply = s.supply := by
  unfold State.decideClaim; split
  · split <;> simp
  · rfl
@[simp] theorem State.decideClaim_isUp (s : State) (c : Claim) :
    (s.decideClaim c).isUp = s.isUp := by simp [State.isUp]
@[simp] theorem State.decideClaim_inHoldUp (s : State) (c : Claim) :
    (s.decideClaim c).inHoldUp = s.inHoldUp := by simp [State.inHoldUp]
@[simp] theorem State.decideClaim_choices (s : State) (c : Claim) : (s.decideClaim c).choices = s.choices := by
  unfold State.decideClaim; split
  · split <;> simp
  · rfl
@[simp] theorem State.decideClaim_pending (s : State) (c : Claim) : (s.decideClaim c).pending = s.pending := by
  unfold State.decideClaim; split
  · split <;> simp
  · rfl

/-- A fold of steps that each keep an observation keeps it. -/
theorem foldl_keeps {α β γ : Type} (obs : α → γ) (step : α → β → α) (h : ∀ a b, obs (step a b) = obs a) (l : List β)
    (a : α) : obs (l.foldl step a) = obs a := by
  induction l generalizing a with
  | nil => rfl
  | cons b l ih => rw [List.foldl_cons, ih, h]

@[simp] theorem State.mergePass_belt (s : State) : s.mergePass.belt = s.belt := by
  unfold State.mergePass
  exact foldl_keeps (fun t => t.belt) State.decideClaim State.decideClaim_belt _ s
@[simp] theorem State.mergePass_chute (s : State) : s.mergePass.chute = s.chute := by
  unfold State.mergePass
  exact foldl_keeps (fun t => t.chute) State.decideClaim State.decideClaim_chute _ s
@[simp] theorem State.mergePass_recog (s : State) : s.mergePass.recog = s.recog := by
  unfold State.mergePass
  exact foldl_keeps (fun t => t.recog) State.decideClaim State.decideClaim_recog _ s
@[simp] theorem State.mergePass_reject (s : State) : s.mergePass.reject = s.reject := by
  unfold State.mergePass
  exact foldl_keeps (fun t => t.reject) State.decideClaim State.decideClaim_reject _ s
@[simp] theorem State.mergePass_table (s : State) : s.mergePass.table = s.table := by
  unfold State.mergePass
  exact foldl_keeps (fun t => t.table) State.decideClaim State.decideClaim_table _ s
@[simp] theorem State.mergePass_plans (s : State) : s.mergePass.plans = s.plans := by
  unfold State.mergePass
  exact foldl_keeps (fun t => t.plans) State.decideClaim State.decideClaim_plans _ s
@[simp] theorem State.mergePass_corner (s : State) : s.mergePass.corner = s.corner := by
  simp [State.corner]
@[simp] theorem State.mergePass_lanePart (s : State) (k₀ : LaneId) : s.mergePass.lanePart k₀ = s.lanePart k₀ := by
  simp [State.lanePart]
@[simp] theorem State.mergePass_binPart (s : State) (b₀ : BinId) : s.mergePass.binPart b₀ = s.binPart b₀ := by
  simp [State.binPart]
@[simp] theorem State.mergePass_supply (s : State) : s.mergePass.supply = s.supply := by
  unfold State.mergePass
  exact foldl_keeps (fun t => t.supply) State.decideClaim State.decideClaim_supply _ s
@[simp] theorem State.mergePass_isUp (s : State) : s.mergePass.isUp = s.isUp := by
  simp [State.isUp]
@[simp] theorem State.mergePass_inHoldUp (s : State) : s.mergePass.inHoldUp = s.inHoldUp := by
  simp [State.inHoldUp]
@[simp] theorem State.mergePass_choices (s : State) : s.mergePass.choices = s.choices := by
  unfold State.mergePass
  exact foldl_keeps (fun t => t.choices) State.decideClaim State.decideClaim_choices _ s
@[simp] theorem State.mergePass_pending (s : State) : s.mergePass.pending = s.pending := by
  unfold State.mergePass
  exact foldl_keeps (fun t => t.pending) State.decideClaim State.decideClaim_pending _ s

/-- A pass over an empty set does nothing (R70). -/
theorem State.mergePass_nil (s : State) (h : s.merge.claims = []) : s.mergePass = s := by
  simp [State.mergePass, h]

@[simp] theorem State.passIfReleased_belt (t s : State) : (t.passIfReleased s).belt = t.belt := by
  unfold State.passIfReleased; split <;> simp
@[simp] theorem State.passIfReleased_chute (t s : State) : (t.passIfReleased s).chute = t.chute := by
  unfold State.passIfReleased; split <;> simp
@[simp] theorem State.passIfReleased_recog (t s : State) : (t.passIfReleased s).recog = t.recog := by
  unfold State.passIfReleased; split <;> simp
@[simp] theorem State.passIfReleased_reject (t s : State) : (t.passIfReleased s).reject = t.reject := by
  unfold State.passIfReleased; split <;> simp
@[simp] theorem State.passIfReleased_table (t s : State) : (t.passIfReleased s).table = t.table := by
  unfold State.passIfReleased; split <;> simp
@[simp] theorem State.passIfReleased_plans (t s : State) : (t.passIfReleased s).plans = t.plans := by
  unfold State.passIfReleased; split <;> simp
@[simp] theorem State.passIfReleased_supply (t s : State) : (t.passIfReleased s).supply = t.supply := by
  unfold State.passIfReleased; split <;> simp
@[simp] theorem State.passIfReleased_choices (t s : State) : (t.passIfReleased s).choices = t.choices := by
  unfold State.passIfReleased; split <;> simp
@[simp] theorem State.passIfReleased_pending (t s : State) : (t.passIfReleased s).pending = t.pending := by
  unfold State.passIfReleased; split <;> simp

/-! ### The gate (R86 to R88) -/

@[simp] theorem State.removeHead_belt (s : State) (rest : List TransitRecord) : (s.removeHead rest).belt = s.belt := by simp [State.removeHead]
@[simp] theorem State.removeHead_chute (s : State) (rest : List TransitRecord) : (s.removeHead rest).chute = s.chute := by simp [State.removeHead]
@[simp] theorem State.removeHead_recog (s : State) (rest : List TransitRecord) : (s.removeHead rest).recog = s.recog := by simp [State.removeHead]
@[simp] theorem State.removeHead_lanes (s : State) (rest : List TransitRecord) : (s.removeHead rest).lanes = s.lanes := by simp [State.removeHead]
@[simp] theorem State.removeHead_lane (s : State) (rest : List TransitRecord) (k₀ : LaneId) :
    (s.removeHead rest).lane k₀ = s.lane k₀ := by simp [State.lane]
@[simp] theorem State.removeHead_bins (s : State) (rest : List TransitRecord) : (s.removeHead rest).bins = s.bins := by simp [State.removeHead]
@[simp] theorem State.removeHead_bin (s : State) (rest : List TransitRecord) (b₀ : BinId) :
    (s.removeHead rest).bin b₀ = s.bin b₀ := by simp [State.bin]
@[simp] theorem State.removeHead_reject (s : State) (rest : List TransitRecord) : (s.removeHead rest).reject = s.reject := by simp [State.removeHead]
@[simp] theorem State.removeHead_table (s : State) (rest : List TransitRecord) : (s.removeHead rest).table = s.table := by simp [State.removeHead]
@[simp] theorem State.removeHead_plans (s : State) (rest : List TransitRecord) : (s.removeHead rest).plans = s.plans := by simp [State.removeHead]
@[simp] theorem State.removeHead_corner (s : State) (rest : List TransitRecord) :
    (s.removeHead rest).corner = s.corner := by simp [State.corner]
@[simp] theorem State.removeHead_lanePart (s : State) (rest : List TransitRecord) (k₀ : LaneId) :
    (s.removeHead rest).lanePart k₀ = s.lanePart k₀ := by simp [State.lanePart]
@[simp] theorem State.removeHead_binPart (s : State) (rest : List TransitRecord) (b₀ : BinId) :
    (s.removeHead rest).binPart b₀ = s.binPart b₀ := by simp [State.binPart]
@[simp] theorem State.removeHead_supply (s : State) (rest : List TransitRecord) : (s.removeHead rest).supply = s.supply := by simp [State.removeHead]
@[simp] theorem State.removeHead_isUp (s : State) (rest : List TransitRecord) :
    (s.removeHead rest).isUp = s.isUp := by simp [State.isUp]
@[simp] theorem State.removeHead_inHoldUp (s : State) (rest : List TransitRecord) :
    (s.removeHead rest).inHoldUp = s.inHoldUp := by simp [State.inHoldUp]
@[simp] theorem State.removeHead_choices (s : State) (rest : List TransitRecord) : (s.removeHead rest).choices = s.choices := by simp [State.removeHead]
@[simp] theorem State.removeHead_pending (s : State) (rest : List TransitRecord) : (s.removeHead rest).pending = s.pending := by simp [State.removeHead]

@[simp] theorem State.removeHead_transit (s : State) (rest : List TransitRecord) :
    (s.removeHead rest).transit = rest := by simp [State.removeHead]

/-- The removal of the head evaluates merge-hold and forms held again (R79, R64, R63). -/
theorem State.removeHead_merge (s : State) (rest : List TransitRecord) :
    (s.removeHead rest).merge = { s.merge with
      mergeHold := s.merge.mergeHold && !decide (rest.length ≤ s.corner.releaseMark)
      held := (s.removeHead rest).heldCauses } := by
  simp only [State.removeHead, State.reformHeld_merge, State.reformHeld_heldCauses]
  rfl

@[simp] theorem State.confirmCredit_belt (s : State) (r : TransitRecord) : (s.confirmCredit r).belt = s.belt := by unfold State.confirmCredit; split <;> simp
@[simp] theorem State.confirmCredit_chute (s : State) (r : TransitRecord) : (s.confirmCredit r).chute = s.chute := by unfold State.confirmCredit; split <;> simp
@[simp] theorem State.confirmCredit_recog (s : State) (r : TransitRecord) : (s.confirmCredit r).recog = s.recog := by unfold State.confirmCredit; split <;> simp
@[simp] theorem State.confirmCredit_merge (s : State) (r : TransitRecord) : (s.confirmCredit r).merge = s.merge := by unfold State.confirmCredit; split <;> simp
@[simp] theorem State.confirmCredit_claimOf (s : State) (r : TransitRecord) (k₀ : LaneId) :
    (s.confirmCredit r).claimOf k₀ = s.claimOf k₀ := by simp [State.claimOf]
@[simp] theorem State.confirmCredit_bins (s : State) (r : TransitRecord) : (s.confirmCredit r).bins = s.bins := by unfold State.confirmCredit; split <;> simp
@[simp] theorem State.confirmCredit_bin (s : State) (r : TransitRecord) (b₀ : BinId) :
    (s.confirmCredit r).bin b₀ = s.bin b₀ := by simp [State.bin]
@[simp] theorem State.confirmCredit_reject (s : State) (r : TransitRecord) : (s.confirmCredit r).reject = s.reject := by unfold State.confirmCredit; split <;> simp
@[simp] theorem State.confirmCredit_plans (s : State) (r : TransitRecord) : (s.confirmCredit r).plans = s.plans := by unfold State.confirmCredit; split <;> simp
@[simp] theorem State.confirmCredit_corner (s : State) (r : TransitRecord) :
    (s.confirmCredit r).corner = s.corner := by simp [State.corner]
@[simp] theorem State.confirmCredit_lanePart (s : State) (r : TransitRecord) (k₀ : LaneId) :
    (s.confirmCredit r).lanePart k₀ = s.lanePart k₀ := by simp [State.lanePart]
@[simp] theorem State.confirmCredit_binPart (s : State) (r : TransitRecord) (b₀ : BinId) :
    (s.confirmCredit r).binPart b₀ = s.binPart b₀ := by simp [State.binPart]
@[simp] theorem State.confirmCredit_supply (s : State) (r : TransitRecord) : (s.confirmCredit r).supply = s.supply := by unfold State.confirmCredit; split <;> simp
@[simp] theorem State.confirmCredit_isUp (s : State) (r : TransitRecord) :
    (s.confirmCredit r).isUp = s.isUp := by simp [State.isUp]
@[simp] theorem State.confirmCredit_inHoldUp (s : State) (r : TransitRecord) :
    (s.confirmCredit r).inHoldUp = s.inHoldUp := by simp [State.inHoldUp]
@[simp] theorem State.confirmCredit_choices (s : State) (r : TransitRecord) : (s.confirmCredit r).choices = s.choices := by unfold State.confirmCredit; split <;> simp
@[simp] theorem State.confirmCredit_pending (s : State) (r : TransitRecord) : (s.confirmCredit r).pending = s.pending := by unfold State.confirmCredit; split <;> simp

@[simp] theorem State.loseCredit_belt (s : State) (r : TransitRecord) : (s.loseCredit r).belt = s.belt := by unfold State.loseCredit; split <;> simp
@[simp] theorem State.loseCredit_chute (s : State) (r : TransitRecord) : (s.loseCredit r).chute = s.chute := by unfold State.loseCredit; split <;> simp
@[simp] theorem State.loseCredit_recog (s : State) (r : TransitRecord) : (s.loseCredit r).recog = s.recog := by unfold State.loseCredit; split <;> simp
@[simp] theorem State.loseCredit_merge (s : State) (r : TransitRecord) : (s.loseCredit r).merge = s.merge := by unfold State.loseCredit; split <;> simp
@[simp] theorem State.loseCredit_claimOf (s : State) (r : TransitRecord) (k₀ : LaneId) :
    (s.loseCredit r).claimOf k₀ = s.claimOf k₀ := by simp [State.claimOf]
@[simp] theorem State.loseCredit_bins (s : State) (r : TransitRecord) : (s.loseCredit r).bins = s.bins := by unfold State.loseCredit; split <;> simp
@[simp] theorem State.loseCredit_bin (s : State) (r : TransitRecord) (b₀ : BinId) :
    (s.loseCredit r).bin b₀ = s.bin b₀ := by simp [State.bin]
@[simp] theorem State.loseCredit_reject (s : State) (r : TransitRecord) : (s.loseCredit r).reject = s.reject := by unfold State.loseCredit; split <;> simp
@[simp] theorem State.loseCredit_plans (s : State) (r : TransitRecord) : (s.loseCredit r).plans = s.plans := by unfold State.loseCredit; split <;> simp
@[simp] theorem State.loseCredit_corner (s : State) (r : TransitRecord) :
    (s.loseCredit r).corner = s.corner := by simp [State.corner]
@[simp] theorem State.loseCredit_lanePart (s : State) (r : TransitRecord) (k₀ : LaneId) :
    (s.loseCredit r).lanePart k₀ = s.lanePart k₀ := by simp [State.lanePart]
@[simp] theorem State.loseCredit_binPart (s : State) (r : TransitRecord) (b₀ : BinId) :
    (s.loseCredit r).binPart b₀ = s.binPart b₀ := by simp [State.binPart]
@[simp] theorem State.loseCredit_supply (s : State) (r : TransitRecord) : (s.loseCredit r).supply = s.supply := by unfold State.loseCredit; split <;> simp
@[simp] theorem State.loseCredit_isUp (s : State) (r : TransitRecord) :
    (s.loseCredit r).isUp = s.isUp := by simp [State.isUp]
@[simp] theorem State.loseCredit_inHoldUp (s : State) (r : TransitRecord) :
    (s.loseCredit r).inHoldUp = s.inHoldUp := by simp [State.inHoldUp]
@[simp] theorem State.loseCredit_choices (s : State) (r : TransitRecord) : (s.loseCredit r).choices = s.choices := by unfold State.loseCredit; split <;> simp
@[simp] theorem State.loseCredit_pending (s : State) (r : TransitRecord) : (s.loseCredit r).pending = s.pending := by unfold State.loseCredit; split <;> simp

@[simp] theorem State.matchHead_belt (s : State) (r : TransitRecord) (rest : List TransitRecord) : (s.matchHead r rest).belt = s.belt := by simp [State.matchHead]
@[simp] theorem State.matchHead_recog (s : State) (r : TransitRecord) (rest : List TransitRecord) : (s.matchHead r rest).recog = s.recog := by simp [State.matchHead]
@[simp] theorem State.matchHead_reject (s : State) (r : TransitRecord) (rest : List TransitRecord) : (s.matchHead r rest).reject = s.reject := by simp [State.matchHead]
@[simp] theorem State.matchHead_plans (s : State) (r : TransitRecord) (rest : List TransitRecord) : (s.matchHead r rest).plans = s.plans := by simp [State.matchHead]
@[simp] theorem State.matchHead_corner (s : State) (r : TransitRecord) (rest : List TransitRecord) :
    (s.matchHead r rest).corner = s.corner := by simp [State.corner]
@[simp] theorem State.matchHead_lanePart (s : State) (r : TransitRecord) (rest : List TransitRecord) (k₀ : LaneId) :
    (s.matchHead r rest).lanePart k₀ = s.lanePart k₀ := by simp [State.lanePart]
@[simp] theorem State.matchHead_binPart (s : State) (r : TransitRecord) (rest : List TransitRecord) (b₀ : BinId) :
    (s.matchHead r rest).binPart b₀ = s.binPart b₀ := by simp [State.binPart]
@[simp] theorem State.matchHead_supply (s : State) (r : TransitRecord) (rest : List TransitRecord) : (s.matchHead r rest).supply = s.supply := by simp [State.matchHead]
@[simp] theorem State.matchHead_isUp (s : State) (r : TransitRecord) (rest : List TransitRecord) :
    (s.matchHead r rest).isUp = s.isUp := by simp [State.isUp]
@[simp] theorem State.matchHead_inHoldUp (s : State) (r : TransitRecord) (rest : List TransitRecord) :
    (s.matchHead r rest).inHoldUp = s.inHoldUp := by simp [State.inHoldUp]
@[simp] theorem State.matchHead_choices (s : State) (r : TransitRecord) (rest : List TransitRecord) : (s.matchHead r rest).choices = s.choices := by simp [State.matchHead]
@[simp] theorem State.matchHead_pending (s : State) (r : TransitRecord) (rest : List TransitRecord) : (s.matchHead r rest).pending = s.pending := by simp [State.matchHead]

@[simp] theorem State.missHead_belt (s : State) (r : TransitRecord) (rest : List TransitRecord) : (s.missHead r rest).belt = s.belt := by simp [State.missHead]
@[simp] theorem State.missHead_chute (s : State) (r : TransitRecord) (rest : List TransitRecord) : (s.missHead r rest).chute = s.chute := by simp [State.missHead]
@[simp] theorem State.missHead_recog (s : State) (r : TransitRecord) (rest : List TransitRecord) : (s.missHead r rest).recog = s.recog := by simp [State.missHead]
@[simp] theorem State.missHead_reject (s : State) (r : TransitRecord) (rest : List TransitRecord) : (s.missHead r rest).reject = s.reject := by simp [State.missHead]
@[simp] theorem State.missHead_plans (s : State) (r : TransitRecord) (rest : List TransitRecord) : (s.missHead r rest).plans = s.plans := by simp [State.missHead]
@[simp] theorem State.missHead_corner (s : State) (r : TransitRecord) (rest : List TransitRecord) :
    (s.missHead r rest).corner = s.corner := by simp [State.corner]
@[simp] theorem State.missHead_lanePart (s : State) (r : TransitRecord) (rest : List TransitRecord) (k₀ : LaneId) :
    (s.missHead r rest).lanePart k₀ = s.lanePart k₀ := by simp [State.lanePart]
@[simp] theorem State.missHead_binPart (s : State) (r : TransitRecord) (rest : List TransitRecord) (b₀ : BinId) :
    (s.missHead r rest).binPart b₀ = s.binPart b₀ := by simp [State.binPart]
@[simp] theorem State.missHead_supply (s : State) (r : TransitRecord) (rest : List TransitRecord) : (s.missHead r rest).supply = s.supply := by simp [State.missHead]
@[simp] theorem State.missHead_isUp (s : State) (r : TransitRecord) (rest : List TransitRecord) :
    (s.missHead r rest).isUp = s.isUp := by simp [State.isUp]
@[simp] theorem State.missHead_inHoldUp (s : State) (r : TransitRecord) (rest : List TransitRecord) :
    (s.missHead r rest).inHoldUp = s.inHoldUp := by simp [State.inHoldUp]
@[simp] theorem State.missHead_choices (s : State) (r : TransitRecord) (rest : List TransitRecord) : (s.missHead r rest).choices = s.choices := by simp [State.missHead]
@[simp] theorem State.missHead_pending (s : State) (r : TransitRecord) (rest : List TransitRecord) : (s.missHead r rest).pending = s.pending := by simp [State.missHead]

@[simp] theorem State.countReject_belt (s : State) : (s.countReject).belt = s.belt := by simp [State.countReject]
@[simp] theorem State.countReject_chute (s : State) : (s.countReject).chute = s.chute := by simp [State.countReject]
@[simp] theorem State.countReject_recog (s : State) : (s.countReject).recog = s.recog := by simp [State.countReject]
@[simp] theorem State.countReject_lanes (s : State) : (s.countReject).lanes = s.lanes := by simp [State.countReject]
@[simp] theorem State.countReject_lane (s : State) (k₀ : LaneId) :
    (s.countReject).lane k₀ = s.lane k₀ := by simp [State.lane]
@[simp] theorem State.countReject_transit (s : State) : (s.countReject).transit = s.transit := by simp [State.countReject]
@[simp] theorem State.countReject_occupancy (s : State) :
    (s.countReject).occupancy = s.occupancy := by simp [State.occupancy]
@[simp] theorem State.countReject_bins (s : State) : (s.countReject).bins = s.bins := by simp [State.countReject]
@[simp] theorem State.countReject_bin (s : State) (b₀ : BinId) :
    (s.countReject).bin b₀ = s.bin b₀ := by simp [State.bin]
@[simp] theorem State.countReject_table (s : State) : (s.countReject).table = s.table := by simp [State.countReject]
@[simp] theorem State.countReject_plans (s : State) : (s.countReject).plans = s.plans := by simp [State.countReject]
@[simp] theorem State.countReject_corner (s : State) :
    (s.countReject).corner = s.corner := by simp [State.corner]
@[simp] theorem State.countReject_lanePart (s : State) (k₀ : LaneId) :
    (s.countReject).lanePart k₀ = s.lanePart k₀ := by simp [State.lanePart]
@[simp] theorem State.countReject_binPart (s : State) (b₀ : BinId) :
    (s.countReject).binPart b₀ = s.binPart b₀ := by simp [State.binPart]
@[simp] theorem State.countReject_supply (s : State) : (s.countReject).supply = s.supply := by simp [State.countReject]
@[simp] theorem State.countReject_isUp (s : State) :
    (s.countReject).isUp = s.isUp := by simp [State.isUp]
@[simp] theorem State.countReject_inHoldUp (s : State) :
    (s.countReject).inHoldUp = s.inHoldUp := by simp [State.inHoldUp]
@[simp] theorem State.countReject_choices (s : State) : (s.countReject).choices = s.choices := by simp [State.countReject]
@[simp] theorem State.countReject_pending (s : State) : (s.countReject).pending = s.pending := by simp [State.countReject]

@[simp] theorem State.stray_belt (s : State) : (s.stray).belt = s.belt := by simp [State.stray]
@[simp] theorem State.stray_recog (s : State) : (s.stray).recog = s.recog := by simp [State.stray]
@[simp] theorem State.stray_lanes (s : State) : (s.stray).lanes = s.lanes := by simp [State.stray]
@[simp] theorem State.stray_lane (s : State) (k₀ : LaneId) :
    (s.stray).lane k₀ = s.lane k₀ := by simp [State.lane]
@[simp] theorem State.stray_transit (s : State) : (s.stray).transit = s.transit := by simp [State.stray]
@[simp] theorem State.stray_occupancy (s : State) :
    (s.stray).occupancy = s.occupancy := by simp [State.occupancy]
@[simp] theorem State.stray_bins (s : State) : (s.stray).bins = s.bins := by simp [State.stray]
@[simp] theorem State.stray_bin (s : State) (b₀ : BinId) :
    (s.stray).bin b₀ = s.bin b₀ := by simp [State.bin]
@[simp] theorem State.stray_plans (s : State) : (s.stray).plans = s.plans := by simp [State.stray]
@[simp] theorem State.stray_corner (s : State) :
    (s.stray).corner = s.corner := by simp [State.corner]
@[simp] theorem State.stray_lanePart (s : State) (k₀ : LaneId) :
    (s.stray).lanePart k₀ = s.lanePart k₀ := by simp [State.lanePart]
@[simp] theorem State.stray_binPart (s : State) (b₀ : BinId) :
    (s.stray).binPart b₀ = s.binPart b₀ := by simp [State.binPart]
@[simp] theorem State.stray_supply (s : State) : (s.stray).supply = s.supply := by simp [State.stray]
@[simp] theorem State.stray_isUp (s : State) :
    (s.stray).isUp = s.isUp := by simp [State.isUp]
@[simp] theorem State.stray_inHoldUp (s : State) :
    (s.stray).inHoldUp = s.inHoldUp := by simp [State.inHoldUp]
@[simp] theorem State.stray_choices (s : State) : (s.stray).choices = s.choices := by simp [State.stray]
@[simp] theorem State.stray_pending (s : State) : (s.stray).pending = s.pending := by simp [State.stray]

@[simp] theorem State.decideAgain_belt (s : State) (e : Count) : (s.decideAgain e).belt = s.belt := by
  unfold State.decideAgain; split
  · simp
  · split <;> simp
@[simp] theorem State.decideAgain_recog (s : State) (e : Count) : (s.decideAgain e).recog = s.recog := by
  unfold State.decideAgain; split
  · simp
  · split <;> simp
@[simp] theorem State.decideAgain_plans (s : State) (e : Count) : (s.decideAgain e).plans = s.plans := by
  unfold State.decideAgain; split
  · simp
  · split <;> simp
@[simp] theorem State.decideAgain_corner (s : State) (e : Count) :
    (s.decideAgain e).corner = s.corner := by simp [State.corner]
@[simp] theorem State.decideAgain_lanePart (s : State) (e : Count) (k₀ : LaneId) :
    (s.decideAgain e).lanePart k₀ = s.lanePart k₀ := by simp [State.lanePart]
@[simp] theorem State.decideAgain_binPart (s : State) (e : Count) (b₀ : BinId) :
    (s.decideAgain e).binPart b₀ = s.binPart b₀ := by simp [State.binPart]
@[simp] theorem State.decideAgain_supply (s : State) (e : Count) : (s.decideAgain e).supply = s.supply := by
  unfold State.decideAgain; split
  · simp
  · split <;> simp
@[simp] theorem State.decideAgain_isUp (s : State) (e : Count) :
    (s.decideAgain e).isUp = s.isUp := by simp [State.isUp]
@[simp] theorem State.decideAgain_inHoldUp (s : State) (e : Count) :
    (s.decideAgain e).inHoldUp = s.inHoldUp := by simp [State.inHoldUp]
@[simp] theorem State.decideAgain_choices (s : State) (e : Count) : (s.decideAgain e).choices = s.choices := by
  unfold State.decideAgain; split
  · simp
  · split <;> simp
@[simp] theorem State.decideAgain_pending (s : State) (e : Count) : (s.decideAgain e).pending = s.pending := by
  unfold State.decideAgain; split
  · simp
  · split <;> simp

@[simp] theorem State.decideEdge_belt (s : State) (e : Count) : (s.decideEdge e).belt = s.belt := by
  unfold State.decideEdge; split
  · simp
  · split <;> simp
@[simp] theorem State.decideEdge_recog (s : State) (e : Count) : (s.decideEdge e).recog = s.recog := by
  unfold State.decideEdge; split
  · simp
  · split <;> simp
@[simp] theorem State.decideEdge_plans (s : State) (e : Count) : (s.decideEdge e).plans = s.plans := by
  unfold State.decideEdge; split
  · simp
  · split <;> simp
@[simp] theorem State.decideEdge_corner (s : State) (e : Count) :
    (s.decideEdge e).corner = s.corner := by simp [State.corner]
@[simp] theorem State.decideEdge_lanePart (s : State) (e : Count) (k₀ : LaneId) :
    (s.decideEdge e).lanePart k₀ = s.lanePart k₀ := by simp [State.lanePart]
@[simp] theorem State.decideEdge_binPart (s : State) (e : Count) (b₀ : BinId) :
    (s.decideEdge e).binPart b₀ = s.binPart b₀ := by simp [State.binPart]
@[simp] theorem State.decideEdge_supply (s : State) (e : Count) : (s.decideEdge e).supply = s.supply := by
  unfold State.decideEdge; split
  · simp
  · split <;> simp
@[simp] theorem State.decideEdge_isUp (s : State) (e : Count) :
    (s.decideEdge e).isUp = s.isUp := by simp [State.isUp]
@[simp] theorem State.decideEdge_inHoldUp (s : State) (e : Count) :
    (s.decideEdge e).inHoldUp = s.inHoldUp := by simp [State.inHoldUp]
@[simp] theorem State.decideEdge_choices (s : State) (e : Count) : (s.decideEdge e).choices = s.choices := by
  unfold State.decideEdge; split
  · simp
  · split <;> simp
@[simp] theorem State.decideEdge_pending (s : State) (e : Count) : (s.decideEdge e).pending = s.pending := by
  unfold State.decideEdge; split
  · simp
  · split <;> simp

@[simp] theorem State.takeEdge_recog (s : State) : (s.takeEdge).recog = s.recog := by simp [State.takeEdge]
@[simp] theorem State.takeEdge_plans (s : State) : (s.takeEdge).plans = s.plans := by simp [State.takeEdge]
@[simp] theorem State.takeEdge_corner (s : State) :
    (s.takeEdge).corner = s.corner := by simp [State.corner]
@[simp] theorem State.takeEdge_lanePart (s : State) (k₀ : LaneId) :
    (s.takeEdge).lanePart k₀ = s.lanePart k₀ := by simp [State.lanePart]
@[simp] theorem State.takeEdge_binPart (s : State) (b₀ : BinId) :
    (s.takeEdge).binPart b₀ = s.binPart b₀ := by simp [State.binPart]
@[simp] theorem State.takeEdge_supply (s : State) : (s.takeEdge).supply = s.supply := by simp [State.takeEdge]
@[simp] theorem State.takeEdge_isUp (s : State) :
    (s.takeEdge).isUp = s.isUp := by simp [State.isUp]
@[simp] theorem State.takeEdge_inHoldUp (s : State) :
    (s.takeEdge).inHoldUp = s.inHoldUp := by simp [State.inHoldUp]
@[simp] theorem State.takeEdge_choices (s : State) : (s.takeEdge).choices = s.choices := by simp [State.takeEdge]
@[simp] theorem State.takeEdge_pending (s : State) : (s.takeEdge).pending = s.pending := by simp [State.takeEdge]

@[simp] theorem State.gateAdvance_belt (s : State) : (s.gateAdvance).belt = s.belt := by
  unfold State.gateAdvance; split
  · rfl
  · split <;> simp
@[simp] theorem State.gateAdvance_chute (s : State) : (s.gateAdvance).chute = s.chute := by
  unfold State.gateAdvance; split
  · rfl
  · split <;> simp
@[simp] theorem State.gateAdvance_recog (s : State) : (s.gateAdvance).recog = s.recog := by
  unfold State.gateAdvance; split
  · rfl
  · split <;> simp
@[simp] theorem State.gateAdvance_reject (s : State) : (s.gateAdvance).reject = s.reject := by
  unfold State.gateAdvance; split
  · rfl
  · split <;> simp
@[simp] theorem State.gateAdvance_plans (s : State) : (s.gateAdvance).plans = s.plans := by
  unfold State.gateAdvance; split
  · rfl
  · split <;> simp
@[simp] theorem State.gateAdvance_corner (s : State) :
    (s.gateAdvance).corner = s.corner := by simp [State.corner]
@[simp] theorem State.gateAdvance_lanePart (s : State) (k₀ : LaneId) :
    (s.gateAdvance).lanePart k₀ = s.lanePart k₀ := by simp [State.lanePart]
@[simp] theorem State.gateAdvance_binPart (s : State) (b₀ : BinId) :
    (s.gateAdvance).binPart b₀ = s.binPart b₀ := by simp [State.binPart]
@[simp] theorem State.gateAdvance_supply (s : State) : (s.gateAdvance).supply = s.supply := by
  unfold State.gateAdvance; split
  · rfl
  · split <;> simp
@[simp] theorem State.gateAdvance_isUp (s : State) :
    (s.gateAdvance).isUp = s.isUp := by simp [State.isUp]
@[simp] theorem State.gateAdvance_inHoldUp (s : State) :
    (s.gateAdvance).inHoldUp = s.inHoldUp := by simp [State.inHoldUp]
@[simp] theorem State.gateAdvance_choices (s : State) : (s.gateAdvance).choices = s.choices := by
  unfold State.gateAdvance; split
  · rfl
  · split <;> simp
@[simp] theorem State.gateAdvance_pending (s : State) : (s.gateAdvance).pending = s.pending := by
  unfold State.gateAdvance; split
  · rfl
  · split <;> simp

@[simp] theorem State.declareJam_chute (s : State) : (s.declareJam).chute = s.chute := by simp [State.declareJam]
@[simp] theorem State.declareJam_recog (s : State) : (s.declareJam).recog = s.recog := by simp [State.declareJam]
@[simp] theorem State.declareJam_lanes (s : State) : (s.declareJam).lanes = s.lanes := by simp [State.declareJam]
@[simp] theorem State.declareJam_lane (s : State) (k₀ : LaneId) :
    (s.declareJam).lane k₀ = s.lane k₀ := by simp [State.lane]
@[simp] theorem State.declareJam_transit (s : State) : (s.declareJam).transit = s.transit := by simp [State.declareJam]
@[simp] theorem State.declareJam_occupancy (s : State) :
    (s.declareJam).occupancy = s.occupancy := by simp [State.occupancy]
@[simp] theorem State.declareJam_bins (s : State) : (s.declareJam).bins = s.bins := by simp [State.declareJam]
@[simp] theorem State.declareJam_bin (s : State) (b₀ : BinId) :
    (s.declareJam).bin b₀ = s.bin b₀ := by simp [State.bin]
@[simp] theorem State.declareJam_reject (s : State) : (s.declareJam).reject = s.reject := by simp [State.declareJam]
@[simp] theorem State.declareJam_table (s : State) : (s.declareJam).table = s.table := by simp [State.declareJam]
@[simp] theorem State.declareJam_plans (s : State) : (s.declareJam).plans = s.plans := by simp [State.declareJam]
@[simp] theorem State.declareJam_corner (s : State) :
    (s.declareJam).corner = s.corner := by simp [State.corner]
@[simp] theorem State.declareJam_lanePart (s : State) (k₀ : LaneId) :
    (s.declareJam).lanePart k₀ = s.lanePart k₀ := by simp [State.lanePart]
@[simp] theorem State.declareJam_binPart (s : State) (b₀ : BinId) :
    (s.declareJam).binPart b₀ = s.binPart b₀ := by simp [State.binPart]
@[simp] theorem State.declareJam_supply (s : State) : (s.declareJam).supply = s.supply := by simp [State.declareJam]
@[simp] theorem State.declareJam_isUp (s : State) :
    (s.declareJam).isUp = s.isUp := by simp [State.isUp]
@[simp] theorem State.declareJam_inHoldUp (s : State) :
    (s.declareJam).inHoldUp = s.inHoldUp := by simp [State.inHoldUp]
@[simp] theorem State.declareJam_choices (s : State) : (s.declareJam).choices = s.choices := by simp [State.declareJam]
@[simp] theorem State.declareJam_pending (s : State) : (s.declareJam).pending = s.pending := by simp [State.declareJam]

@[simp] theorem State.jamAdvance_chute (s : State) : (s.jamAdvance).chute = s.chute := by
  unfold State.jamAdvance; split
  · split <;> simp
  · rfl
@[simp] theorem State.jamAdvance_recog (s : State) : (s.jamAdvance).recog = s.recog := by
  unfold State.jamAdvance; split
  · split <;> simp
  · rfl
@[simp] theorem State.jamAdvance_lanes (s : State) : (s.jamAdvance).lanes = s.lanes := by
  unfold State.jamAdvance; split
  · split <;> simp
  · rfl
@[simp] theorem State.jamAdvance_lane (s : State) (k₀ : LaneId) :
    (s.jamAdvance).lane k₀ = s.lane k₀ := by simp [State.lane]
@[simp] theorem State.jamAdvance_transit (s : State) : (s.jamAdvance).transit = s.transit := by
  unfold State.jamAdvance; split
  · split <;> simp
  · rfl
@[simp] theorem State.jamAdvance_occupancy (s : State) :
    (s.jamAdvance).occupancy = s.occupancy := by simp [State.occupancy]
@[simp] theorem State.jamAdvance_bins (s : State) : (s.jamAdvance).bins = s.bins := by
  unfold State.jamAdvance; split
  · split <;> simp
  · rfl
@[simp] theorem State.jamAdvance_bin (s : State) (b₀ : BinId) :
    (s.jamAdvance).bin b₀ = s.bin b₀ := by simp [State.bin]
@[simp] theorem State.jamAdvance_reject (s : State) : (s.jamAdvance).reject = s.reject := by
  unfold State.jamAdvance; split
  · split <;> simp
  · rfl
@[simp] theorem State.jamAdvance_table (s : State) : (s.jamAdvance).table = s.table := by
  unfold State.jamAdvance; split
  · split <;> simp
  · rfl
@[simp] theorem State.jamAdvance_plans (s : State) : (s.jamAdvance).plans = s.plans := by
  unfold State.jamAdvance; split
  · split <;> simp
  · rfl
@[simp] theorem State.jamAdvance_corner (s : State) :
    (s.jamAdvance).corner = s.corner := by simp [State.corner]
@[simp] theorem State.jamAdvance_lanePart (s : State) (k₀ : LaneId) :
    (s.jamAdvance).lanePart k₀ = s.lanePart k₀ := by simp [State.lanePart]
@[simp] theorem State.jamAdvance_binPart (s : State) (b₀ : BinId) :
    (s.jamAdvance).binPart b₀ = s.binPart b₀ := by simp [State.binPart]
@[simp] theorem State.jamAdvance_supply (s : State) : (s.jamAdvance).supply = s.supply := by
  unfold State.jamAdvance; split
  · split <;> simp
  · rfl
@[simp] theorem State.jamAdvance_isUp (s : State) :
    (s.jamAdvance).isUp = s.isUp := by simp [State.isUp]
@[simp] theorem State.jamAdvance_inHoldUp (s : State) :
    (s.jamAdvance).inHoldUp = s.inHoldUp := by simp [State.inHoldUp]
@[simp] theorem State.jamAdvance_choices (s : State) : (s.jamAdvance).choices = s.choices := by
  unfold State.jamAdvance; split
  · split <;> simp
  · rfl
@[simp] theorem State.jamAdvance_pending (s : State) : (s.jamAdvance).pending = s.pending := by
  unfold State.jamAdvance; split
  · split <;> simp
  · rfl

/-- The jam watch at an advance (R12): below the jam length, or idle, it changes nothing. -/
theorem State.jamAdvance_idle (s : State) (h : s.belt.watch = none) : s.jamAdvance = s := by
  simp [State.jamAdvance, h]

theorem State.jamAdvance_below (s : State) (c : Count) (h : s.belt.watch = some c)
    (hd : signedDistance c s.belt.count < s.corner.jamLength) : s.jamAdvance = s := by
  have : ¬ (s.corner.jamLength : Int) ≤ signedDistance c s.belt.count := by omega
  simp [State.jamAdvance, h, this]

/-- At the jam length a jam is declared: the watch is idle and the belt stopped (R12). -/
@[simp] theorem State.declareJam_belt (s : State) :
    s.declareJam.belt = { s.belt with jam := true, watch := none, running := false } := by
  simp [State.declareJam, State.runConditions]

theorem State.jamAdvance_declares (s : State) (c : Count) (h : s.belt.watch = some c)
    (hd : (s.corner.jamLength : Int) ≤ signedDistance c s.belt.count) : s.jamAdvance = s.declareJam := by
  simp [State.jamAdvance, h, hd]

@[simp] theorem State.jamAdvance_count (s : State) : s.jamAdvance.belt.count = s.belt.count := by
  unfold State.jamAdvance; split <;> (try split) <;> simp
@[simp] theorem State.jamAdvance_enable (s : State) : s.jamAdvance.belt.enable = s.belt.enable := by
  unfold State.jamAdvance; split <;> (try split) <;> simp
@[simp] theorem State.jamAdvance_estopPressed (s : State) : s.jamAdvance.belt.estopPressed = s.belt.estopPressed := by
  unfold State.jamAdvance; split <;> (try split) <;> simp
@[simp] theorem State.jamAdvance_eyeBlocked (s : State) : s.jamAdvance.belt.eyeBlocked = s.belt.eyeBlocked := by
  unfold State.jamAdvance; split <;> (try split) <;> simp

/-- The Gate Matcher's part of an advance that is not at the head's missing point changes nothing (R85). -/
theorem State.gateAdvance_idle (s : State)
    (h : ∀ r rest, s.transit = r :: rest →
      windowPosition s.corner.tolerance r.due s.belt.count ≠ .missingPoint) : s.gateAdvance = s := by
  unfold State.gateAdvance
  split
  · rfl
  · rename_i r rest he; rw [if_neg (h r rest he)]

/-- The position of a count against a window, by the signed distance (R81). -/
theorem windowPosition_missingPoint (tol : Nat) (due x : Count) :
    windowPosition tol due x = .missingPoint ↔ signedDistance due x = tol + 1 := by
  unfold windowPosition; dsimp only
  split_ifs <;> simp <;> omega
theorem windowPosition_inWindow (tol : Nat) (due x : Count) :
    windowPosition tol due x = .inWindow ↔ -(tol : Int) ≤ signedDistance due x ∧ signedDistance due x ≤ tol := by
  unfold windowPosition; dsimp only
  split_ifs <;> simp <;> omega
theorem windowPosition_early (tol : Nat) (due x : Count) :
    windowPosition tol due x = .early ↔ signedDistance due x < -(tol : Int) := by
  unfold windowPosition; dsimp only
  split_ifs <;> simp <;> omega
theorem windowPosition_late (tol : Nat) (due x : Count) :
    windowPosition tol due x = .late ↔ (tol : Int) + 1 < signedDistance due x := by
  unfold windowPosition; dsimp only
  split_ifs <;> simp <;> omega

/-! ### Notices that only other events set -/

@[simp] theorem State.warnTest_notice_belt (s : State) (b : BinId) :
    ((s.warnTest b).port .office).notices.belt = (s.port .office).notices.belt := by rw [State.warnTest_port]; split <;> rfl
@[simp] theorem State.warnTest_notice_reject (s : State) (b : BinId) :
    ((s.warnTest b).port .office).notices.reject = (s.port .office).notices.reject := by rw [State.warnTest_port]; split <;> rfl
@[simp] theorem State.warnTest_notice_supply (s : State) (b : BinId) :
    ((s.warnTest b).port .office).notices.supply = (s.port .office).notices.supply := by rw [State.warnTest_port]; split <;> rfl
@[simp] theorem State.warnTest_port_checkout (s : State) (b : BinId) :
    (s.warnTest b).port .checkout = s.port .checkout := by simp [State.warnTest_port]
@[simp] theorem State.reserve_notice_belt (s : State) (b : BinId) (v : Nat) :
    ((s.reserve b v).port .office).notices.belt = (s.port .office).notices.belt := by simp [State.reserve]
@[simp] theorem State.reserve_notice_reject (s : State) (b : BinId) (v : Nat) :
    ((s.reserve b v).port .office).notices.reject = (s.port .office).notices.reject := by simp [State.reserve]
@[simp] theorem State.reserve_notice_supply (s : State) (b : BinId) (v : Nat) :
    ((s.reserve b v).port .office).notices.supply = (s.port .office).notices.supply := by simp [State.reserve]
@[simp] theorem State.reserve_port_checkout (s : State) (b : BinId) (v : Nat) :
    (s.reserve b v).port .checkout = s.port .checkout := by simp [State.reserve]
@[simp] theorem State.drainIfEmpty_notice_belt (s : State) (b : BinId) :
    ((s.drainIfEmpty b).port .office).notices.belt = (s.port .office).notices.belt := by rw [State.drainIfEmpty_port]; split <;> rfl
@[simp] theorem State.drainIfEmpty_notice_reject (s : State) (b : BinId) :
    ((s.drainIfEmpty b).port .office).notices.reject = (s.port .office).notices.reject := by rw [State.drainIfEmpty_port]; split <;> rfl
@[simp] theorem State.drainIfEmpty_notice_supply (s : State) (b : BinId) :
    ((s.drainIfEmpty b).port .office).notices.supply = (s.port .office).notices.supply := by rw [State.drainIfEmpty_port]; split <;> rfl
@[simp] theorem State.drainIfEmpty_port_checkout (s : State) (b : BinId) :
    (s.drainIfEmpty b).port .checkout = s.port .checkout := by simp [State.drainIfEmpty_port]
@[simp] theorem State.confirmFill_notice_belt (s : State) (b : BinId) (v : Nat) :
    ((s.confirmFill b v).port .office).notices.belt = (s.port .office).notices.belt := by simp [State.confirmFill]
@[simp] theorem State.confirmFill_notice_reject (s : State) (b : BinId) (v : Nat) :
    ((s.confirmFill b v).port .office).notices.reject = (s.port .office).notices.reject := by simp [State.confirmFill]
@[simp] theorem State.confirmFill_notice_supply (s : State) (b : BinId) (v : Nat) :
    ((s.confirmFill b v).port .office).notices.supply = (s.port .office).notices.supply := by simp [State.confirmFill]
@[simp] theorem State.confirmFill_port_checkout (s : State) (b : BinId) (v : Nat) :
    (s.confirmFill b v).port .checkout = s.port .checkout := by simp [State.confirmFill]
@[simp] theorem State.releaseFill_notice_belt (s : State) (b : BinId) (v : Nat) :
    ((s.releaseFill b v).port .office).notices.belt = (s.port .office).notices.belt := by simp [State.releaseFill]
@[simp] theorem State.releaseFill_notice_reject (s : State) (b : BinId) (v : Nat) :
    ((s.releaseFill b v).port .office).notices.reject = (s.port .office).notices.reject := by simp [State.releaseFill]
@[simp] theorem State.releaseFill_notice_supply (s : State) (b : BinId) (v : Nat) :
    ((s.releaseFill b v).port .office).notices.supply = (s.port .office).notices.supply := by simp [State.releaseFill]
@[simp] theorem State.releaseFill_port_checkout (s : State) (b : BinId) (v : Nat) :
    (s.releaseFill b v).port .checkout = s.port .checkout := by simp [State.releaseFill]

@[simp] theorem State.closeSession_port_checkout (s : State) (k : LaneId) (p : Bool) :
    (s.closeSession k p).port .checkout = s.port .checkout := s.closeSession_port_ne p (by simp)
@[simp] theorem State.closeSession_port_office (s : State) (k : LaneId) (p : Bool) :
    (s.closeSession k p).port .office = s.port .office := s.closeSession_port_ne p (by simp)
@[simp] theorem State.closeIfSettled_port_checkout (s : State) (k : LaneId) :
    (s.closeIfSettled k).port .checkout = s.port .checkout := by
  unfold State.closeIfSettled; split <;> simp [State.ordinaryClose]
@[simp] theorem State.closeIfSettled_port_office (s : State) (k : LaneId) :
    (s.closeIfSettled k).port .office = s.port .office := by
  unfold State.closeIfSettled; split <;> simp [State.ordinaryClose]
@[simp] theorem State.insertRecord_port_checkout (s : State) (r : TransitRecord) :
    (s.insertRecord r).port .checkout = s.port .checkout := by simp [State.insertRecord]
@[simp] theorem State.insertRecord_port_office (s : State) (r : TransitRecord) :
    (s.insertRecord r).port .office = s.port .office := by simp [State.insertRecord]
@[simp] theorem State.removeHead_port_checkout (s : State) (rest : List TransitRecord) :
    (s.removeHead rest).port .checkout = s.port .checkout := by simp [State.removeHead]
@[simp] theorem State.removeHead_port_office (s : State) (rest : List TransitRecord) :
    (s.removeHead rest).port .office = s.port .office := by simp [State.removeHead]
@[simp] theorem State.confirmCredit_port_checkout (s : State) (r : TransitRecord) :
    (s.confirmCredit r).port .checkout = s.port .checkout := by unfold State.confirmCredit; split <;> simp
@[simp] theorem State.confirmCredit_port_office (s : State) (r : TransitRecord) :
    (s.confirmCredit r).port .office = s.port .office := by unfold State.confirmCredit; split <;> simp
@[simp] theorem State.loseCredit_port_checkout (s : State) (r : TransitRecord) :
    (s.loseCredit r).port .checkout = s.port .checkout := by unfold State.loseCredit; split <;> simp
@[simp] theorem State.loseCredit_port_office (s : State) (r : TransitRecord) :
    (s.loseCredit r).port .office = s.port .office := by unfold State.loseCredit; split <;> simp
@[simp] theorem State.countReject_port_checkout (s : State) : s.countReject.port .checkout = s.port .checkout := by
  simp [State.countReject]
@[simp] theorem State.countReject_port_office (s : State) : s.countReject.port .office = s.port .office := by
  simp [State.countReject]

@[simp] theorem State.grant_notice_belt (s : State) (c : Claim) (b : BinId) :
    ((s.grant c b).port .office).notices.belt = (s.port .office).notices.belt := by simp [State.grant]
@[simp] theorem State.grant_notice_reject (s : State) (c : Claim) (b : BinId) :
    ((s.grant c b).port .office).notices.reject = (s.port .office).notices.reject := by simp [State.grant]
@[simp] theorem State.grant_notice_supply (s : State) (c : Claim) (b : BinId) :
    ((s.grant c b).port .office).notices.supply = (s.port .office).notices.supply := by simp [State.grant]
@[simp] theorem State.grant_port_checkout (s : State) (c : Claim) (b : BinId) :
    (s.grant c b).port .checkout = s.port .checkout := by simp [State.grant]
@[simp] theorem State.decideClaim_notice_belt (s : State) (c : Claim) :
    ((s.decideClaim c).port .office).notices.belt = (s.port .office).notices.belt := by
  unfold State.decideClaim; split
  · split <;> simp
  · rfl
@[simp] theorem State.decideClaim_notice_reject (s : State) (c : Claim) :
    ((s.decideClaim c).port .office).notices.reject = (s.port .office).notices.reject := by
  unfold State.decideClaim; split
  · split <;> simp
  · rfl
@[simp] theorem State.decideClaim_notice_supply (s : State) (c : Claim) :
    ((s.decideClaim c).port .office).notices.supply = (s.port .office).notices.supply := by
  unfold State.decideClaim; split
  · split <;> simp
  · rfl
@[simp] theorem State.decideClaim_port_checkout (s : State) (c : Claim) :
    (s.decideClaim c).port .checkout = s.port .checkout := by
  unfold State.decideClaim; split
  · split <;> simp
  · rfl
@[simp] theorem State.mergePass_notice_belt (s : State) :
    ((s.mergePass).port .office).notices.belt = (s.port .office).notices.belt := by
  unfold State.mergePass
  exact foldl_keeps (fun t => (t.port .office).notices.belt) State.decideClaim State.decideClaim_notice_belt _ s
@[simp] theorem State.mergePass_notice_reject (s : State) :
    ((s.mergePass).port .office).notices.reject = (s.port .office).notices.reject := by
  unfold State.mergePass
  exact foldl_keeps (fun t => (t.port .office).notices.reject) State.decideClaim State.decideClaim_notice_reject _ s
@[simp] theorem State.mergePass_notice_supply (s : State) :
    ((s.mergePass).port .office).notices.supply = (s.port .office).notices.supply := by
  unfold State.mergePass
  exact foldl_keeps (fun t => (t.port .office).notices.supply) State.decideClaim State.decideClaim_notice_supply _ s
@[simp] theorem State.mergePass_port_checkout (s : State) :
    (s.mergePass).port .checkout = s.port .checkout := by
  unfold State.mergePass
  exact foldl_keeps (fun t => t.port .checkout) State.decideClaim State.decideClaim_port_checkout _ s
@[simp] theorem State.matchHead_notice_belt (s : State) (r : TransitRecord) (rest : List TransitRecord) :
    ((s.matchHead r rest).port .office).notices.belt = (s.port .office).notices.belt := by simp [State.matchHead]
@[simp] theorem State.matchHead_notice_reject (s : State) (r : TransitRecord) (rest : List TransitRecord) :
    ((s.matchHead r rest).port .office).notices.reject = (s.port .office).notices.reject := by simp [State.matchHead]
@[simp] theorem State.matchHead_notice_supply (s : State) (r : TransitRecord) (rest : List TransitRecord) :
    ((s.matchHead r rest).port .office).notices.supply = (s.port .office).notices.supply := by simp [State.matchHead]
@[simp] theorem State.matchHead_port_checkout (s : State) (r : TransitRecord) (rest : List TransitRecord) :
    (s.matchHead r rest).port .checkout = s.port .checkout := by simp [State.matchHead]
@[simp] theorem State.missHead_notice_belt (s : State) (r : TransitRecord) (rest : List TransitRecord) :
    ((s.missHead r rest).port .office).notices.belt = (s.port .office).notices.belt := by simp [State.missHead]
@[simp] theorem State.missHead_notice_reject (s : State) (r : TransitRecord) (rest : List TransitRecord) :
    ((s.missHead r rest).port .office).notices.reject = (s.port .office).notices.reject := by simp [State.missHead]
@[simp] theorem State.missHead_notice_supply (s : State) (r : TransitRecord) (rest : List TransitRecord) :
    ((s.missHead r rest).port .office).notices.supply = (s.port .office).notices.supply := by simp [State.missHead]
@[simp] theorem State.missHead_port_checkout (s : State) (r : TransitRecord) (rest : List TransitRecord) :
    (s.missHead r rest).port .checkout = s.port .checkout := by simp [State.missHead]
@[simp] theorem State.gateAdvance_notice_belt (s : State) :
    ((s.gateAdvance).port .office).notices.belt = (s.port .office).notices.belt := by
  unfold State.gateAdvance; split
  · rfl
  · split <;> simp
@[simp] theorem State.gateAdvance_notice_reject (s : State) :
    ((s.gateAdvance).port .office).notices.reject = (s.port .office).notices.reject := by
  unfold State.gateAdvance; split
  · rfl
  · split <;> simp
@[simp] theorem State.gateAdvance_notice_supply (s : State) :
    ((s.gateAdvance).port .office).notices.supply = (s.port .office).notices.supply := by
  unfold State.gateAdvance; split
  · rfl
  · split <;> simp
@[simp] theorem State.gateAdvance_port_checkout (s : State) :
    (s.gateAdvance).port .checkout = s.port .checkout := by
  unfold State.gateAdvance; split
  · rfl
  · split <;> simp

@[simp] theorem State.declareJam_notice_belt (s : State) : (s.declareJam.port .office).notices.belt = true := by
  simp [State.declareJam, Notices.set]
@[simp] theorem State.jamAdvance_port_checkout (s : State) : s.jamAdvance.port .checkout = s.port .checkout := by
  unfold State.jamAdvance; split <;> (try split) <;> simp [State.declareJam]


/-! ### Resolutions in full -/

@[simp] theorem State.removeHead_claims (s : State) (rest : List TransitRecord) :
    (s.removeHead rest).merge.claims = s.merge.claims := by rw [State.removeHead_merge]

/-- The lane links after a removal of the head are notified where held changed (R56). -/
theorem State.removeHead_noticed (s : State) (rest : List TransitRecord) (k : LaneId) :
    (s.removeHead rest).port (.lane k) =
      (s.port (.lane k)).noticed ((s.removeHead rest).merge.held != s.merge.held) := by
  unfold State.removeHead
  exact State.reformHeld_noticed _ k

/-- A released reservation with its drain (R91, R108). -/
theorem State.releaseFill_bin (s : State) (b a : BinId) (v : Nat) :
    (s.releaseFill b v).bin a =
      if a = b then
        { s.bin b with reserved := (s.bin b).reserved - v, state := (s.bin b).drained ((s.bin b).reserved - v) }
      else s.bin a := by
  unfold State.releaseFill
  rw [State.drainIfEmpty_bin]
  by_cases h : a = b
  · simp only [h, if_true, State.bin_setBin_self]
    rcases hs : (s.bin b).state with _ | _ | t | _
    rotate_left 2
    · cases t <;> simp [Bin.drained, hs, DrainTarget.state]
    all_goals simp [Bin.drained, hs]
  · simp [h]

/-- A volume moved from reserved to confirmed fill, with its drain (R90, R108). -/
theorem State.confirmFill_bin (s : State) (b a : BinId) (v : Nat) :
    (s.confirmFill b v).bin a =
      if a = b then
        { s.bin b with
          reserved := (s.bin b).reserved - v, confirmed := (s.bin b).confirmed + v
          items := min ((s.bin b).items + 1) Config.itemMax
          state := (s.bin b).drained ((s.bin b).reserved - v) }
      else s.bin a := by
  unfold State.confirmFill
  rw [State.drainIfEmpty_bin]
  by_cases h : a = b
  · simp only [h, if_true, State.bin_setBin_self]
    rcases hs : (s.bin b).state with _ | _ | t | _
    rotate_left 2
    · cases t <;> simp [Bin.drained, hs, DrainTarget.state]
    all_goals simp [Bin.drained, hs]
  · simp [h]

/-- The office link after a released reservation: the BIN notice where the drain completed (R114). -/
theorem State.releaseFill_port_office (s : State) (b : BinId) (v : Nat) :
    (s.releaseFill b v).port .office =
      if ((s.releaseFill b v).bin b).state = (s.bin b).state then s.port .office
      else { s.port .office with notices := { (s.port .office).notices with bin := true } } := by
  unfold State.releaseFill
  rw [State.drainIfEmpty_port]
  simp

/-- The office link after a confirmed fill: the BIN notice where the drain completed (R114). -/
theorem State.confirmFill_port_office (s : State) (b : BinId) (v : Nat) :
    (s.confirmFill b v).port .office =
      if ((s.confirmFill b v).bin b).state = (s.bin b).state then s.port .office
      else { s.port .office with notices := { (s.port .office).notices with bin := true } } := by
  unfold State.confirmFill
  rw [State.drainIfEmpty_port]
  simp

@[simp] theorem State.releaseFill_port_lane (s : State) (b : BinId) (v : Nat) (k : LaneId) :
    (s.releaseFill b v).port (.lane k) = s.port (.lane k) := by
  simp [State.releaseFill, State.drainIfEmpty_port]
@[simp] theorem State.confirmFill_port_lane (s : State) (b : BinId) (v : Nat) (k : LaneId) :
    (s.confirmFill b v).port (.lane k) = s.port (.lane k) := by
  simp [State.confirmFill, State.drainIfEmpty_port]

@[simp] theorem State.missHead_merge (s : State) (r : TransitRecord) (rest : List TransitRecord) :
    (s.missHead r rest).merge = (s.removeHead rest).merge := by simp [State.missHead]
@[simp] theorem State.matchHead_merge (s : State) (r : TransitRecord) (rest : List TransitRecord) :
    (s.matchHead r rest).merge = (s.removeHead rest).merge := by simp [State.matchHead]

/-- A missing attached record that does not end its session (R46). -/
theorem State.loseCredit_open (s : State) (r : TransitRecord) (ha : r.attached = true)
    (hs : (s.lane r.lane).state = .settling → 2 ≤ (s.lane r.lane).transitCount) :
    s.loseCredit r =
      (s.setLane r.lane { s.lane r.lane with
        transitCredit := (s.lane r.lane).transitCredit - r.deposit
        transitCount := (s.lane r.lane).transitCount - 1 }).raise (.lane r.lane) .credit := by
  unfold State.loseCredit State.closeIfSettled
  simp only [ha, if_true]
  rw [if_neg]
  simp
  intro hh
  have := hs hh
  omega

/-- A confirmed attached record that does not end its session (R45). -/
theorem State.confirmCredit_open (s : State) (r : TransitRecord) (ha : r.attached = true)
    (hs : (s.lane r.lane).state = .settling → 2 ≤ (s.lane r.lane).transitCount) :
    s.confirmCredit r =
      s.setLane r.lane { s.lane r.lane with
        transitCredit := (s.lane r.lane).transitCredit - r.deposit
        transitCount := (s.lane r.lane).transitCount - 1
        firmCredit := (s.lane r.lane).firmCredit + r.deposit
        firmCount := (s.lane r.lane).firmCount + 1 } := by
  unfold State.confirmCredit State.closeIfSettled
  simp only [ha, if_true]
  rw [if_neg]
  simp
  intro hh
  have := hs hh
  omega

/-- An orphan reaches no lane context at its match (R89). -/
theorem State.confirmCredit_orphan (s : State) (r : TransitRecord) (ha : r.attached = false) :
    s.confirmCredit r = s := by simp [State.confirmCredit, ha]

/-- A missing orphan's deposit joins the paid-unreturned total (R89). -/
theorem State.loseCredit_orphan (s : State) (r : TransitRecord) (ha : r.attached = false) :
    s.loseCredit r = s.setTotals
      { s.table.totals with paidUnreturned := satAdd s.table.totals.paidUnreturned r.deposit } := by
  simp [State.loseCredit, ha]

end Sys2Proof.Machine
end

