-- ==== Sys2Proof/Laws/Timers.lean ====
section
/-! SUPPORT. What the timebase and the four expiry commands can do: one timebase step raises every timer and queues the
expiries that have come, an expiry command acts exactly where its timer has reached its limit, and the spec's words for
that are the model's test. -/

namespace Sys2Proof.Machine

/-! ### A timer at its limit -/

/-- The settle timer (R48). -/
theorem State.atLimit_settle (s : State) (k : LaneId) :
    s.AtLimit (.settleTimerExpiry k) ↔ (s.lane k).settleDue = true := by
  simp only [State.AtLimit, Lane.settleDue]
  cases (s.lane k).settle <;> simp

/-- The claim-wait timer (R61). -/
theorem State.atLimit_claimWait (s : State) (k : LaneId) :
    s.AtLimit (.claimWaitExpiry k) ↔ s.claimWaitDue k = true := by
  simp only [State.AtLimit, State.claimWaitDue]
  cases s.claimOf k <;> simp

/-- The claim lapse timer (R126). -/
theorem State.atLimit_lapse (s : State) (i : SlotId) :
    s.AtLimit (.claimLapse i) ↔ (s.table.slot i).lapseDue = true := by
  simp only [State.AtLimit, VoucherSlot.lapseDue]
  cases s.table.slot i <;> simp [Config.lapseLimit, -decide_eq_true_eq]
  exact decide_eq_true_iff.symm

/-- The gap timer (R155). -/
theorem State.atLimit_gap (s : State) (l : Link) :
    s.AtLimit (.gapTimerExpiry l) ↔ (s.port l).receiver.gapDue = true := by
  simp only [State.AtLimit, Receiver.gapDue]
  cases (s.port l).receiver <;> simp [Config.gapLimit, -decide_eq_true_eq] <;> exact decide_eq_true_iff.symm

/-- The expiries that have come, in one list, are the commands whose timers have reached their limits. -/
theorem State.mem_dueExpiries (s : State) (c : Instr) : c ∈ s.dueExpiries ↔ s.AtLimit c := by
  have hk (k : LaneId) : k ∈ laneIds := by revert k; decide
  have hl (l : Link) : l ∈ links := by
    rcases l with k | _ | _
    · revert k; decide
    · decide
    · decide
  cases c <;>
    simp [State.dueExpiries, State.atLimit_settle, State.atLimit_claimWait, State.atLimit_lapse, State.atLimit_gap, hk, hl]
  all_goals exact id

/-! ### A timebase step -/

/-- What a timebase step does to a lane, a slot and a link. -/
@[simp] theorem State.advanceTimers_lane (s : State) (k : LaneId) : s.advanceTimers.lane k = (s.lane k).tick :=
  getElem_mapAll _ _ _ _
@[simp] theorem State.advanceTimers_slot (s : State) (i : SlotId) :
    s.advanceTimers.table.slot i = (s.table.slot i).tick :=
  getElem_mapAll _ _ _ _
@[simp] theorem State.advanceTimers_port (s : State) (l : Link) : s.advanceTimers.port l = (s.port l).tick :=
  getElem_mapAll _ _ _ _

/-- Queueing expiry commands puts each of them into the queue once, and touches only the queue and the choice counter. -/
theorem State.queueExpiries_spec (fuel : Nat) (cs : List Instr) (s : State) (h : cs.length ≤ fuel) :
    (∃ q, q.Perm cs ∧ (s.queueExpiries fuel cs).pending = s.pending ++ q) ∧
      s.queueExpiries fuel cs =
        { s with choices := (s.queueExpiries fuel cs).choices, pending := (s.queueExpiries fuel cs).pending } := by
  induction fuel generalizing cs s with
  | zero =>
    obtain rfl : cs = [] := List.length_eq_zero_iff.mp (by omega)
    exact ⟨⟨[], .nil, by simp [State.queueExpiries]⟩, rfl⟩
  | succ fuel ih =>
    match cs with
    | [] => exact ⟨⟨[], .nil, by simp [State.queueExpiries]⟩, rfl⟩
    | [c] => exact ⟨⟨[c], .refl _, rfl⟩, rfl⟩
    | c :: d :: rest =>
      simp only [State.queueExpiries]
      generalize hi : Config.freeChoice s.choices % ((d :: rest).length + 1) = i
      have hlt : i < (c :: d :: rest).length := by rw [← hi]; exact Nat.mod_lt _ (Nat.succ_pos _)
      have hlen : ((c :: d :: rest).eraseIdx i).length ≤ fuel := by
        simp only [List.length_eraseIdx, if_pos hlt]; simp only [List.length_cons] at h ⊢; omega
      obtain ⟨⟨q, hq, hp⟩, hs⟩ := ih ((c :: d :: rest).eraseIdx i)
        { s with choices := s.choices + 1, pending := s.pending ++ [(c :: d :: rest)[i]?.getD c] } hlen
      refine ⟨⟨(c :: d :: rest)[i]?.getD c :: q, ?_, by simp [hp]⟩, by rw [hs]⟩
      rw [List.getElem?_eq_getElem hlt, Option.getD_some]
      exact (hq.cons _).trans (List.getElem_cons_eraseIdx_perm hlt)

/-- With at most one expiry due, no choice is drawn. -/
theorem State.queueExpiries_one (fuel : Nat) (c : Instr) (s : State) :
    s.queueExpiries (fuel + 1) [c] = { s with pending := s.pending ++ [c] } := rfl

/-- A timebase step with nothing due only raises the timers. -/
theorem State.timebaseStep_of_none (s : State) (hu : s.isUp = true) (h : s.advanceTimers.dueExpiries = []) :
    s.timebaseStep = s.advanceTimers := by
  simp [State.timebaseStep, State.whenUp, hu, h, State.queueExpiries]

end Sys2Proof.Machine
end

