-- ==== Sys2Proof/Tests/Slice0.lean ====
section
/-! SUPPORT. Small tests of one step each, with expected values from the manual's worked sequences, the smoke tests of
`Instr.wellFormed`, and for every obligation with hypotheses a theorem that shows states and operands that meet them. -/

namespace Sys2Proof.Tests

open Sys2Proof.Machine

-- Each proof evaluates a state; one after another, so that the evaluations do not all hold memory at once.
set_option Elab.async false

/-! ### States -/

/-- The state after a command. -/
def run1 (c : Instr) (s : State) : State :=
  match exec c s with
  | .next t => t
  | .fault f => nomatch f
  | .refused _ => s

/-- An ACTIVE lane with its figures. -/
def active (slot : SlotId) (transitCount : Nat) : Lane :=
  { Lane.cold with
    state := .active, slot := some slot, transitCredit := 25 * transitCount, transitCount := transitCount }

/-- A SERVING bin. -/
def serving (material capacity ratio mark confirmed reserved : Nat) (warn : Bool) : Bin :=
  { Bin.cold with
    state := .serving, material := material, capacity := capacity, ratio := ratio, warningMark := mark
    confirmed := confirmed, reserved := reserved, warn := warn }

/-- The plan of section 12.3. -/
def peakPlan : Plan :=
  { corner := .cold
    lanes := #v[{ LanePart.cold 3600 with mode := .opened, materials := 6 },
                { LanePart.cold 2700 with mode := .opened, materials := 6 },
                { LanePart.cold 1800 with mode := .opened, materials := 6 },
                { LanePart.cold 900 with mode := .opened, materials := 6 }]
    bins := #v[BinPart.cold, ⟨.serving, 1, 9000, 6, 8500⟩, BinPart.cold, ⟨.serving, 2, 6000, 4, 5500⟩,
               ⟨.serving, 1, 9000, 6, 8500⟩, BinPart.cold, BinPart.cold] }

/-- A voucher that was issued earlier, in slot 0. -/
def oldVoucher : Voucher :=
  { serial := 500, amount := 20000, count := 800, unconfirmed := 0, lane := 1, powerClosed := false, recovered := false }

/-- The state before event a of section 12.3, with the outstanding amount owed on one voucher in slot 0. -/
def peak : State :=
  { State.reset with
    belt := { count := 10000, enable := true, estopPressed := false, eyeBlocked := false, watch := none, jam := false
              running := true }
    recog := { State.reset.recog with
      entries := (State.reset.recog.entries.set 0 ⟨true, 0x111111111111, 0xFFFFFFFFFFFF, 4⟩).set 5
        ⟨true, 0x222222222222, 0xFFFFFF000000, 12⟩
      classes := (State.reset.recog.classes.set 4 ⟨25, 1, 50, 10, 100, false⟩).set 12 ⟨25, 2, 20, 5, 60, true⟩ }
    lanes := #v[active 8 0, active 9 0, active 10 0, active 11 0]
    merge := { claims := [], mergeHold := false, held := false }
    bins := #v[Bin.cold, serving 1 9000 6 8500 8980 0 true, Bin.cold, serving 2 6000 4 5500 3000 0 false,
               serving 1 9000 6 8500 1000 0 false, Bin.cold, Bin.cold]
    table := { VoucherTable.cold with
      slots := VoucherTable.cold.slots.set 0 (.issued oldVoucher)
      stack := (List.finRange 128).filter fun i => 1 ≤ i.val && (i.val < 8 || 12 ≤ i.val)
      serial := 500
      outstanding := 20000 }
    plans := { staged := peakPlan, active := peakPlan } }

/-- An attached record of lane `k`. -/
def rec (k : LaneId) (b : BinId) (volume : Nat) (due : Count) : TransitRecord :=
  { lane := k, attached := true, deposit := 25, bin := b, volume := volume, due := due }

/-- The state after event c of section 12.3, at a count. -/
def riding (count : Count) : State :=
  { peak with
    belt := { peak.belt with count := count }
    transit := [rec 3 3 5 10930, rec 2 1 19 11830, rec 0 4 19 13630]
    lanes := #v[active 8 1, active 9 0, active 10 1, active 11 1]
    bins := ((peak.bins.set 1 (serving 1 9000 6 8500 8980 19 true)).set 3 (serving 2 6000 4 5500 3000 5 false)).set 4
      (serving 1 9000 6 8500 1000 19 false) }

/-- The state of section 12.3 after the match of event f, at a count. -/
def later (count : Count) : State :=
  { riding count with
    transit := [rec 2 1 19 11830, rec 0 4 19 13630]
    lanes := #v[active 8 1, active 9 0, active 10 1, { active 11 0 with firmCredit := 25, firmCount := 1 }]
    bins := (riding count).bins.set 3 (serving 2 6000 4 5500 3005 0 false) }

/-- The CONTAINER report of a PET bottle of class 4. -/
def bottle : RawReport := { keyPresent := 1, key := 0x111111111111, weight := 40, shapeOk := 0 }

/-- The CONTAINER report of a can of class 12. -/
def can : RawReport := { keyPresent := 1, key := 0x222222ABCDEF, weight := 15, shapeOk := 1 }

/-- The same state with another supply state. -/
def inHoldUp (s : State) : State := { s with supply := { s.supply with state := .holdUp } }

/-! ### Well-formedness -/

/-- A start is cut within its four lane recoveries. -/
theorem test_wellFormed_start :
    (Instr.start .powerOn ⟨false, false, false, false, false⟩ (some 5)).wellFormed = false ∧
      (Instr.start .powerOn ⟨false, false, false, false, false⟩ (some 4)).wellFormed = true := by decide

/-- A frame's body has at most 119 bytes (R154). -/
theorem test_wellFormed_frame :
    (Instr.frameRefused .office 0x27 (List.replicate 120 0) 0).wellFormed = false ∧
      (Instr.frameRefused .office 0x27 (List.replicate 119 0) 0).wellFormed = true := by decide

/-- A checkout request's code and its checkout byte fit the body. -/
theorem test_wellFormed_code :
    (Instr.claim 1 (List.replicate 119 0)).wellFormed = false ∧
      (Instr.redeem 1 (List.replicate 119 0)).wellFormed = false ∧
      (Instr.unclaim 1 (List.replicate 119 0)).wellFormed = false ∧
      (Instr.claim 1 (List.replicate 118 0)).wellFormed = true := by decide

/-- A TARIFF-DATA body fits a frame. -/
theorem test_wellFormed_tariffData :
    (Instr.tariffData (List.replicate 120 0)).wellFormed = false ∧
      (Instr.tariffData (List.replicate 119 0)).wellFormed = true := by decide

/-! ### Worked values of the manual -/

/-- The worked values of section 5.2. -/
theorem test_signedDistance :
    signedDistance 65200 1554 = 1890 ∧ signedDistance 1580 1571 = -9 ∧ signedDistance 100 65530 = -106 := by decide

/-- The compacted volumes of section 12.3. -/
theorem test_compactedVolume : compactedVolume 50 6 = 19 ∧ compactedVolume 20 4 = 5 := by decide

/-- The voucher codes of sections 11.7 and 12.3. -/
theorem test_voucherCode :
    voucherCode 5 1234 = [0, 3, 2, 8, 9, 1, 4, 3] ∧ voucherCode 11 501 = [0, 7, 2, 1, 3, 9, 7, 7] ∧
      voucherCode 8 502 = [0, 5, 2, 4, 7, 9, 0, 5] := by decide

/-- The frames of section 10.8.1. -/
theorem test_frames :
    frameOf 0x21 [] = [0xA5, 0x01, 0x21, 0xDE] ∧ frameOf 0x30 [0x05, 0xFA] = [0xA5, 0x03, 0x30, 0x05, 0xFA, 0xCE] := by
  decide

/-- The status bytes of section 11.6: 62h on the office link after a start, and A2h on a lane link. -/
theorem test_statusBytes :
    ((run1 (.probe .office) State.reset).port .office).transmitter = .status 0x62 ∧
      laneStatus (active 8 1) false
        { LinkPort.blank with inFlight := some .container, notices := { credit := true } } = 0xA2 := by decide +kernel

/-- The damaged start of section 10.8.2: A5h, then 00h, then 3Fh. -/
theorem test_damagedStart :
    ((run1 (.byteReceived .office 0xA5 true) State.reset).port .office).receiver = .frame [] 0 ∧
      ((run1 (.byteReceived .office 0x00 true) (State.reset.setReceiver .office (.frame [] 0))).port .office).receiver
        = .hunt 0 ∧
      (run1 (.byteReceived .office 0x3F true) (State.reset.setReceiver .office (.hunt 10))).port .office =
        (State.reset.setReceiver .office (.hunt 0)).port .office := by decide +kernel

/-- Event a of section 12.3: the can of lane 3 is granted at once, due 10,930 on chute 4. -/
theorem test_event_a :
    (run1 (.container 3 can) peak).transit = [rec 3 3 5 10930] ∧
      ((run1 (.container 3 can) peak).bin 3).reserved = 5 ∧
      ((run1 (.container 3 can) peak).port (.lane 3)).inFlight = none := by decide +kernel

/-- Event b: bin 2, with the fuller sum 8,999, takes the bottle of lane 2. -/
theorem test_event_b : (run1 (.container 2 bottle) peak).transit = [rec 2 1 19 11830] := by decide +kernel

/-- Event d: bin 2 no longer fits, and the record goes between its neighbours. -/
theorem test_event_d :
    (run1 (.container 1 bottle) (riding 10002)).transit.map (fun r => (r.due, r.bin)) =
      [(10930, 3), (11830, 1), (12732, 4), (13630, 4)] := by decide +kernel

/-- Event e: a due too near its neighbour leaves the claim waiting, with its CONTAINER in flight. -/
theorem test_event_e :
    (run1 (.container 2 bottle) { riding 10900 with transit := [rec 3 3 5 10930, rec 1 4 19 12732] }).merge.claims.map
        Claim.lane = [2] ∧
      ((run1 (.container 2 bottle) { riding 10900 with transit := [rec 3 3 5 10930, rec 1 4 19 12732] }).port
        (.lane 2)).inFlight = some .container := by decide +kernel

/-- Event f: a match 5 pulses after the due, and chute 4. -/
theorem test_event_f :
    (run1 (.leadingEdge none) (riding 10935)).chute = 4 ∧
      ((run1 (.leadingEdge none) (riding 10935)).lane 3).firmCredit = 25 ∧
      ((run1 (.leadingEdge none) (riding 10935)).bin 3).confirmed = 3005 ∧
      (run1 (.leadingEdge none) (riding 10935)).table.totals.confirmed = 1 := by decide +kernel

/-- Event h: the VOUCHER frame of lane 3, slot 11, serial 501, code 07213977, amount 25, one container. -/
theorem test_event_h :
    ((run1 (.endSession 3) (later 11200)).port (.lane 3)).outQueue =
        [[0xA5, 0x12, 0x83, 0x0B, 0x01, 0xF5, 0, 7, 2, 1, 3, 9, 7, 7, 0x00, 0x19, 0x00, 0x01, 0x00, 0x00, 0x2C]] ∧
      (run1 (.endSession 3) (later 11200)).table.outstanding = 20025 := by decide +kernel

/-- Event i: 30 pulses before the due is early, a stray. -/
theorem test_event_i :
    (run1 (.leadingEdge none) (later 11800)).table.totals.strays = 1 ∧
      (run1 (.leadingEdge none) (later 11800)).chute = 0 ∧
      (run1 (.leadingEdge none) (later 11800)).transit = (later 11800).transit := by decide +kernel

/-- Event j: the advance to 11,855 declares the record due at 11,830 missing. -/
theorem test_event_j :
    (run1 (.encoderPulse .gateJamMerge) (later 11854)).transit = [rec 0 4 19 13630] ∧
      ((run1 (.encoderPulse .gateJamMerge) (later 11854)).port (.lane 2)).notices.credit = true ∧
      ((run1 (.encoderPulse .gateJamMerge) (later 11854)).bin 1).reserved = 0 := by decide +kernel

/-- Events k and p: a release of an empty bin, and its return. -/
theorem test_event_k_p :
    ((run1 (.binRelease 2) peak).bin 1).state = .released ∧
      (run1 (.binReturn 2) (peak.setBin 1 { peak.bin 1 with state := .released })).bin 1 =
        serving 1 9000 6 8500 0 0 false := by decide +kernel

/-- The three TARIFF-DATA frames of section 12.1.1 end at index 11 with 2 bytes held, 22 with 4, and 32 with 0. -/
theorem test_tariffFrames :
    (run1 (.tariffData (List.replicate 112 0))
        { State.reset with recog := { State.reset.recog with cursor := some ⟨0, []⟩ } }).recog.cursor =
      some ⟨11, [0, 0]⟩ ∧
    (run1 (.tariffData (List.replicate 112 0))
        { State.reset with recog := { State.reset.recog with cursor := some ⟨11, [0, 0]⟩ } }).recog.cursor =
      some ⟨22, [0, 0, 0, 0]⟩ ∧
    (run1 (.tariffData (List.replicate 96 0))
        { State.reset with recog := { State.reset.recog with cursor := some ⟨22, [0, 0, 0, 0]⟩ } }).recog.cursor =
      some ⟨32, []⟩ := by decide +kernel

/-- The steps out of order of R173: OPEN in PARKED, an unknown key, and a class not loaded. -/
theorem test_missingSteps :
    ((run1 (.openSession 0) State.reset).port (.lane 0)).outQueue = [frameOf 0x80 [0x01, 0x05, 0x00]] ∧
      ((run1 (.container 0 { bottle with key := 3 }) peak).port (.lane 0)).outQueue = [frameOf 0x80 [0x02, 0x09, 0x00]] ∧
      ((run1 (.container 0 bottle) { peak with recog := { peak.recog with classes := Vector.replicate 32 .cold } }).port
        (.lane 0)).outQueue = [frameOf 0x80 [0x02, 0x0A, 0x00]] := by decide +kernel

/-- No row of the opcode table has bits, so no word spells a command. -/
theorem test_decode : decodeTableWord 8 0x3F = none ∧ State.reset.withFetchWord 8 0x3F = State.reset := by decide +kernel

/-! ### Witnesses: the hypotheses of each obligation, met by concrete states

A witness with several parts meets one clause in each, at a boundary of its range where it has one. -/

/-- From the value of a list to the form of a hypothesis. -/
theorem forall_cons {α : Type} (l : List α) (p : α → Prop) [DecidablePred p]
    (h : (match l with | x :: _ => decide (p x) | [] => true) = true) : ∀ x xs, l = x :: xs → p x := by
  rintro x xs rfl
  exact of_decide_eq_true h

/-- A state in which one timer of each kind runs, each 20 ms short of its limit. -/
def ticking : State :=
  { riding 10000 with
    ports := ((riding 10000).ports.set 4 { LinkPort.blank with receiver := .frame [1] 0 }).set 5
      { LinkPort.blank with receiver := .hunt 0 }
    lanes := (riding 10000).lanes.set 0
      { active 8 1 with state := .settling, settle := some { elapsed := 29980, limit := 30000 } }
    merge := { (riding 10000).merge with claims := [⟨2, 4, 25, 1, 50, 7980, 8000⟩] }
    table := peak.table.setSlot 0 (.claimed oldVoucher 3 119980) }

/-- The riding state with slot 0 CLAIMED by checkout 3 for so long. -/
def lapsing (elapsed : Nat) : State :=
  (riding 10000).setTable (peak.table.setSlot 0 (.claimed oldVoucher 3 elapsed))

/-- Two timebase steps, of which the first brings no timer to its limit and the second all of them. -/
theorem test_timebase :
    ticking.advanceTimers.dueExpiries = [] ∧
      ticking.advanceTimers.advanceTimers.dueExpiries =
        [.settleTimerExpiry 0, .claimWaitExpiry 2, .claimLapse 0, .gapTimerExpiry .checkout, .gapTimerExpiry .office] := by
  decide +kernel

/-- A timebase step that brings one timer to its limit puts its expiry command, and no other, into the queue. -/
theorem test_timebase_queues :
    (lapsing 119980).timebaseStep.pending = [] ∧ (lapsing 119990).timebaseStep.pending = [.claimLapse 0] := by
  decide +kernel

theorem witness_IdleStepRaisesTimers :
    (State.reset.assertReset.pending = [] ∧ State.reset.assertReset.isUp = false) ∧
      (ticking.pending = [] ∧ ticking.isUp = true) ∧
      ((lapsing 119990).pending = [] ∧ (lapsing 119990).isUp = true ∧
        (lapsing 119990).advanceTimers.AtLimit (.claimLapse 0)) := by
  simp only [State.atLimit_lapse]
  decide +kernel

theorem witness_InputsNotTakenWhileDown :
    State.reset.assertReset.isUp = false ∧ (peak.loseSupply false).isUp = false := by decide +kernel

/-- The belt at a count, with the watch started at 10,000 and jam length 400. -/
def watching (count : Count) : State :=
  { riding count with belt := { peak.belt with count := count, eyeBlocked := true, watch := some 10000 } }

theorem witness_JamWatchOnAdvance :
    ((watching 10399).isUp = true ∧ (watching 10399).belt.watch = some 10000 ∧
      ((watching 10399).corner.jamLength : Int) ≤ signedDistance 10000 ((watching 10399).belt.count + 1)) ∧
    ((watching 10398).isUp = true ∧ (watching 10398).belt.watch = some 10000 ∧
      signedDistance 10000 ((watching 10398).belt.count + 1) < (watching 10398).corner.jamLength) := by decide +kernel

/-- Lane 0 SETTLING with its END in flight and its last record at the head, at a count. -/
def settlingHead (count : Count) : State :=
  { later count with
    ports := (later count).ports.set 0 { LinkPort.blank with inFlight := some .endSession }
    transit := [rec 0 4 19 13630]
    lanes := (later count).lanes.set 0 { active 8 1 with state := .settling, settle := some ⟨30000, 30000⟩ } }

/-- Lane 2 with a waiting claim, its CONTAINER in flight. -/
def claiming : State :=
  { riding 10900 with
    ports := (riding 10900).ports.set 2 { LinkPort.blank with inFlight := some .container }
    merge := { (riding 10900).merge with claims := [⟨2, 4, 25, 1, 50, 0, 8000⟩] } }

/-- Lane 2 with a waiting claim at a count, with these records on the belt. -/
def claimingAt (count : Count) (transit : List TransitRecord) : State :=
  { later count with
    ports := (later count).ports.set 2 { LinkPort.blank with inFlight := some .container }
    merge := { (later count).merge with claims := [⟨2, 4, 25, 1, 50, 0, 8000⟩] }
    transit := transit }

/-- The same with the records of section 12.3 after the match of event f. -/
def claimingLater (count : Count) : State := claimingAt count [rec 2 1 19 11830, rec 0 4 19 13630]

theorem witness_EncoderPulseAdvancesCount :
    ∀ s ∈ [riding 65535, claiming], s.isUp = true ∧ s.belt.watch = none ∧
      (∀ r rest, s.transit = r :: rest → signedDistance r.due (s.belt.count + 1) ≠ s.corner.tolerance + 1) ∧
      (s.merge.claims = [] ∨ s.PlanInRange) := by
  intro s hs
  have h : s.isUp = true ∧ s.belt.watch = none ∧ (s.merge.claims = [] ∨ s.PlanInRange) := by
    unfold State.PlanInRange
    fin_cases hs <;> decide +kernel
  refine ⟨h.1, h.2.1, ?_, h.2.2⟩
  fin_cases hs <;> (apply forall_cons; decide +kernel)

/-- The pass of an advance grants a waiting claim as soon as its due is a gap away from the record on the belt. -/
theorem test_advancePass :
    (run1 (.encoderPulse .gateJamMerge) (claimingAt 11100 [rec 0 4 19 12732])).merge.claims.length = 1 ∧
      (run1 (.encoderPulse .gateJamMerge) (claimingAt 11101 [rec 0 4 19 12732])).merge.claims = [] := by decide +kernel

/-- The record of lane 2 as an orphan at the head. -/
def orphaned (count : Count) : State :=
  { later count with transit := [{ rec 2 1 19 11830 with attached := false }, rec 0 4 19 13630] }

theorem witness_MissingPointOnAdvance :
    ((later 11854).isUp = true ∧ (later 11854).merge.claims = [] ∧ (later 11854).belt.watch = none ∧
      (later 11854).transit = rec 2 1 19 11830 :: [rec 0 4 19 13630] ∧
      signedDistance (rec 2 1 19 11830).due ((later 11854).belt.count + 1) = (later 11854).corner.tolerance + 1) ∧
    ((orphaned 11854).isUp = true ∧ (orphaned 11854).merge.claims = [] ∧ (orphaned 11854).belt.watch = none ∧
      (orphaned 11854).transit = { rec 2 1 19 11830 with attached := false } :: [rec 0 4 19 13630] ∧
      signedDistance 11830 ((orphaned 11854).belt.count + 1) = (orphaned 11854).corner.tolerance + 1) ∧
    ((settlingHead 13654).isUp = true ∧ (settlingHead 13654).merge.claims = [] ∧
      (settlingHead 13654).belt.watch = none ∧ (settlingHead 13654).transit = rec 0 4 19 13630 :: [] ∧
      signedDistance 13630 ((settlingHead 13654).belt.count + 1) = (settlingHead 13654).corner.tolerance + 1) ∧
    ((claimingLater 11854).isUp = true ∧ (claimingLater 11854).merge.claims ≠ [] ∧ (claimingLater 11854).PlanInRange ∧
      (claimingLater 11854).belt.watch = none ∧
      (claimingLater 11854).transit = rec 2 1 19 11830 :: [rec 0 4 19 13630] ∧
      signedDistance 11830 ((claimingLater 11854).belt.count + 1) = (claimingLater 11854).corner.tolerance + 1) ∧
    gateBeforeMerge .gateMergeJam = true ∧ gateBeforeMerge .mergeGateJam = false := by
  unfold State.PlanInRange
  decide +kernel

/-- The head at its missing point takes the last room of the only bin for the waiting claim's material. -/
def lastRoom : State := { claimingAt 11854 [rec 2 1 19 11830] with bins := (later 11854).bins.set 4 Bin.cold }

/-- R73: with the Merge Arbiter first, the waiting claim is tested against the head before it leaves the queue, and is
refused for want of room; with the Gate Matcher first the released room is granted to it. -/
theorem test_missingPointOrders :
    (run1 (.encoderPulse .mergeGateJam) lastRoom).transit = [] ∧
      (run1 (.encoderPulse .gateMergeJam) lastRoom).transit = [rec 2 1 19 13685] := by decide +kernel

theorem witness_EdgesFollowEyeLevel :
    ((watching 10100).isUp = true ∧ (watching 10100).belt.eyeBlocked = true) ∧
      (peak.isUp = true ∧ peak.belt.eyeBlocked = false) := by decide +kernel

theorem witness_MatchOfHead :
    ∀ count ∈ ([11806, 11854] : List Count), (later count).isUp = true ∧ (later count).belt.eyeBlocked = false ∧
      (later count).transit = rec 2 1 19 11830 :: [rec 0 4 19 13630] ∧
      -((later count).corner.tolerance : Int) ≤ signedDistance (rec 2 1 19 11830).due (later count).belt.count ∧
      signedDistance (rec 2 1 19 11830).due (later count).belt.count ≤ (later count).corner.tolerance := by
  intro count h
  fin_cases h <;> decide +kernel

theorem witness_StrayEdge :
    (peak.isUp = true ∧ peak.belt.eyeBlocked = false ∧ peak.transit = []) ∧
    ((later 11805).isUp = true ∧ (later 11805).belt.eyeBlocked = false ∧
      ∀ r rest, (later 11805).transit = r :: rest →
        signedDistance r.due (later 11805).belt.count < -((later 11805).corner.tolerance : Int)) := by
  refine ⟨by decide +kernel, by decide +kernel, by decide +kernel, ?_⟩
  apply forall_cons
  decide +kernel

/-- The head one pulse before its missing point and the next record 49 pulses after it, in a plan with gap 49. -/
def lateThenMatch : State :=
  { later 11854 with
    transit := [rec 2 1 19 11830, rec 0 4 19 11879]
    plans := { staged := peakPlan, active := { peakPlan with corner := { GlobalPart.cold with gap := 49 } } } }

/-- The head one pulse before its missing point and no other record. -/
def lateAlone : State := { later 11854 with transit := [rec 2 1 19 11830] }

theorem witness_LateEdge :
    (∀ x ∈ [(later 11854, [rec 0 4 19 13630]), (lateThenMatch, [rec 0 4 19 11879]), (lateAlone, []),
        (claimingLater 11854, [rec 0 4 19 13630])],
      x.1.isUp = true ∧ x.1.belt.eyeBlocked = false ∧ x.1.belt.watch = none ∧
      (x.1.merge.claims = [] ∨ gateBeforeMerge .gateJamMerge = true) ∧
      x.1.PlanInRange ∧ x.1.BeltSpaced ∧ x.1.transit = rec 2 1 19 11830 :: x.2 ∧
      signedDistance (rec 2 1 19 11830).due (x.1.belt.count + 1) = x.1.corner.tolerance + 1) ∧
    signedDistance (rec 0 4 19 13630).due ((later 11854).belt.count + 1) < -((later 11854).corner.tolerance : Int) ∧
    signedDistance (rec 0 4 19 11879).due (lateThenMatch.belt.count + 1) = -(lateThenMatch.corner.tolerance : Int) := by
  unfold State.PlanInRange State.BeltSpaced
  decide +kernel

/-- The worked late edge of the tests: the missing total, and the match of the record at its window's opening. -/
theorem test_lateEdge :
    (run1 (.leadingEdge (some .gateJamMerge)) lateThenMatch).table.totals.missing = 1 ∧
      (run1 (.leadingEdge (some .gateJamMerge)) lateThenMatch).table.totals.confirmed = 1 ∧
      (run1 (.leadingEdge (some .gateJamMerge)) (later 11854)).table.totals.strays = 1 := by decide +kernel

theorem witness_EdgeAndAdvanceAgree :
    (∀ s ∈ [later 11804, later 11805, later 11853, later 11854, claimingLater 11805, claimingLater 11854, peak],
      s.isUp = true ∧ s.belt.eyeBlocked = false ∧ s.belt.watch = none ∧ s.PlanInRange ∧ s.BeltSpaced) ∧
    ((later 11854).merge.claims = [] ∧ (later 11854).transit = rec 2 1 19 11830 :: [rec 0 4 19 13630] ∧
      signedDistance (rec 2 1 19 11830).due ((later 11854).belt.count + 1) = (later 11854).corner.tolerance + 1) ∧
    gateBeforeMerge .jamGateMerge = true ∧ gateBeforeMerge .jamMergeGate = false := by
  unfold State.PlanInRange State.BeltSpaced
  decide +kernel

/-- An edge together with the pulse that opens the head's window is a match; together with the pulse before it, a stray. -/
theorem test_edgeAndAdvance :
    (run1 (.leadingEdge (some .jamGateMerge)) (later 11805)).table.totals.confirmed = 1 ∧
      (run1 (.leadingEdge (some .jamGateMerge)) (later 11804)).table.totals.strays = 1 := by decide +kernel

theorem witness_EstopFollowsLine :
    (peak.isUp = true ∧ peak.belt.running = true) ∧
      (run1 .estopAsserted peak).isUp = true ∧ (run1 .estopAsserted peak).merge.held = true ∧
      (run1 .estopReleased (run1 .estopAsserted peak)).merge.held = false := by decide +kernel

theorem witness_SupwarnEntersHoldUp :
    ((inHoldUp peak).isUp = true ∧ (inHoldUp peak).supply.state = .holdUp) ∧
    (claiming.isUp = true ∧ claiming.supply.state = .normal ∧ claiming.ClaimsInFlight ∧ claiming.SlotsConserved ∧
      (claiming.port (.lane 2)).inFlight = some .container ∧ (claiming.port (.lane 0)).inFlight = none) := by
  refine ⟨by decide +kernel, by decide +kernel, by decide +kernel, ?_, ?_, by decide +kernel⟩
  · unfold State.ClaimsInFlight; decide +kernel
  · unfold State.SlotsConserved; decide +kernel

theorem witness_SupplyClosePays :
    ((riding 10000).isUp = true ∧ (riding 10000).supply.state = .normal ∧ (riding 10000).SlotsConserved ∧
      ((riding 10000).lane 0).slot = some 8 ∧
      0 < ((riding 10000).lane 0).firmCredit + ((riding 10000).lane 0).transitCredit ∧
      ((riding 10000).lane 1).slot = some 9 ∧
      ((riding 10000).lane 1).firmCredit + ((riding 10000).lane 1).transitCredit = 0) ∧
    ((settlingHead 13000).isUp = true ∧ (settlingHead 13000).supply.state = .normal ∧
      (settlingHead 13000).SlotsConserved ∧ ((settlingHead 13000).lane 0).slot = some 8 ∧
      ((settlingHead 13000).lane 0).state = .settling ∧
      ((settlingHead 13000).port (.lane 0)).inFlight = some .endSession) := by
  refine ⟨?_, ?_⟩ <;> (unfold State.SlotsConserved; decide +kernel)

theorem witness_SupplyLinesFollowed :
    (peak.isUp = true ∧ peak.supply.state = .normal) ∧
      ((inHoldUp peak).isUp = true ∧ (inHoldUp peak).supply.state = .holdUp) := by decide +kernel

theorem witness_ColdStart :
    ((riding 10000).loseSupply true).supply.marker = false ∧
      ({ State.reset with supply := { State.reset.supply with marker := false } } : State).supply.marker = false := by
  decide +kernel

theorem witness_WarmStart :
    ((riding 10000).loseSupply false).supply.marker = true ∧ (riding 10000).assertReset.supply.marker = true ∧
      ((riding 10000).loseSupply false).supply.phase = .supplyLost ∧ (riding 10000).assertReset.supply.phase = .inReset := by
  decide +kernel

theorem witness_WarmStartRecovers :
    ((riding 10000).loseSupply false).supply.marker = true ∧ ((riding 10000).loseSupply false).SlotsConserved ∧
      (((riding 10000).loseSupply false).lane 0).slot = some 8 ∧
      0 < (((riding 10000).loseSupply false).lane 0).firmCredit + (((riding 10000).loseSupply false).lane 0).transitCredit ∧
      (((riding 10000).loseSupply false).lane 1).slot = some 9 ∧
      (((riding 10000).loseSupply false).lane 1).firmCredit + (((riding 10000).loseSupply false).lane 1).transitCredit =
        0 := by
  unfold State.SlotsConserved
  decide +kernel

theorem witness_CutStartResumes :
    ((riding 10000).loseSupply false).supply.phase = .supplyLost ∧
      ((riding 10000).loseSupply false).supply.marker = true := by decide +kernel

theorem witness_SettlingSessionCloses :
    ((settlingHead 13606).isUp = true ∧ ((settlingHead 13606).lane 1).state ≠ .settling ∧
      (settlingHead 13606).AtLimit (.settleTimerExpiry 0) ∧ ¬ ticking.AtLimit (.settleTimerExpiry 0)) ∧
    (∀ count ∈ ([13606, 13654] : List Count),
      ((settlingHead count).lane 0).state = .settling ∧ ((settlingHead count).lane 0).slot = some 8 ∧
      ((settlingHead count).port (.lane 0)).inFlight = some .endSession ∧
      (settlingHead count).transit = rec 0 4 19 13630 :: [] ∧ ((settlingHead count).lane 0).transitCount = 1 ∧
      (settlingHead count).belt.eyeBlocked = false ∧
      -((settlingHead count).corner.tolerance : Int) ≤ signedDistance 13630 (settlingHead count).belt.count ∧
      signedDistance 13630 (settlingHead count).belt.count ≤ (settlingHead count).corner.tolerance) ∧
    ((settlingHead 13654).merge.claims = [] ∧ (settlingHead 13654).belt.watch = none ∧
      signedDistance 13630 ((settlingHead 13654).belt.count + 1) = (settlingHead 13654).corner.tolerance + 1) := by
  refine ⟨⟨by decide +kernel, by decide +kernel, ?_, ?_⟩, fun count h => ?_, by decide +kernel⟩
  · rw [State.atLimit_settle]; decide +kernel
  · rw [State.atLimit_settle]; decide +kernel
  · fin_cases h <;> decide +kernel

/-- Slot 0 CLAIMED by checkout 3. -/
def claimedBy3 : State := peak.setTable (peak.table.setSlot 0 (.claimed oldVoucher 3 500))

theorem witness_ClaimLapse :
    (claimedBy3.isUp = true ∧ claimedBy3.table.slot 0 = .claimed oldVoucher 3 500) ∧
      ((lapsing 120000).isUp = true ∧ (lapsing 119999).table.slot 0 = .claimed oldVoucher 3 119999 ∧
        (lapsing 120000).table.slot 0 = .claimed oldVoucher 3 120000) ∧
      (claimedBy3.table.slot 127).used = false ∧ peak.table.slot 0 = .issued oldVoucher := by decide +kernel

/-- R127, CLAIM by the claimant first: the timer restarts at 0 ms and no lapse occurs; the lapse first: the voucher is
claimed again. -/
theorem test_claimAgainstLapse :
    (run1 (.claimLapse 0) (run1 (.claim 3 (voucherCode 0 500)) (lapsing 120000))).table.slot 0 = .claimed oldVoucher 3 0 ∧
      ((run1 (.claimLapse 0) (run1 (.claim 3 (voucherCode 0 500)) (lapsing 120000))).port .checkout).notices.lapse = false ∧
      (run1 (.claimLapse 0) (lapsing 120000)).table.slot 0 = .issued oldVoucher ∧
      ((run1 (.claim 3 (voucherCode 0 500)) (run1 (.claimLapse 0) (lapsing 120000))).port .checkout).notices.lapse = true := by
  decide +kernel

/-- The same claim at another value of its timer, whose limit is 8,000 ms. -/
def outwaited (elapsed : Nat) : State :=
  { claiming with merge := { claiming.merge with claims := [⟨2, 4, 25, 1, 50, elapsed, 8000⟩] } }

theorem witness_ClaimWaitExpiryAndCancel :
    (claiming.isUp = true ∧ (claiming.claimOf 0).isSome = false ∧
      claiming.claimOf 2 = some ⟨2, 4, 25, 1, 50, 0, 8000⟩ ∧
      (outwaited 7999).claimOf 2 = some ⟨2, 4, 25, 1, 50, 7999, 8000⟩ ∧
      (outwaited 8000).claimOf 2 = some ⟨2, 4, 25, 1, 50, 8000, 8000⟩) ∧
    (claiming.Takes (.lane 2) .cancel ∧ (claiming.port (.lane 2)).inFlight = some .container) ∧
    ((settlingHead 13000).Takes (.lane 0) .cancel ∧ ((settlingHead 13000).port (.lane 0)).inFlight = some .endSession) ∧
    (claiming.Takes (.lane 1) .cancel ∧ (claiming.port (.lane 1)).inFlight = none) := by
  unfold State.Takes
  decide +kernel

/-- The office receiver in a state. -/
def receiving (r : Receiver) : State := State.reset.setReceiver .office r

theorem witness_ReceiverTakesByte :
    (∀ r ∈ [Receiver.idle, .frame [] 0, .frame [2, 3] 0, .hunt 20], (receiving r).isUp = true ∧
      ((receiving r).port .office).receiver = r) ∧
    ((1 : Byte).toNat = 1 ∧ (120 : Byte).toNat = 120 ∧ (0 : Byte).toNat = 0 ∧ 120 < (121 : Byte).toNat ∧
      ([3] : List Byte).length < (2 : Byte).toNat) ∧
    ((receiving (.hunt 20)).AtLimit (.gapTimerExpiry .office) ∧ ¬ (receiving (.hunt 19)).AtLimit (.gapTimerExpiry .office) ∧
      ¬ (receiving .idle).AtLimit (.gapTimerExpiry .office)) := by
  simp only [State.atLimit_gap]
  decide +kernel

theorem witness_ProbeFormsStatusByte :
    (State.reset.isUp = true ∧ (State.reset.port .office).receiver = .idle ∧
      (State.reset.port .office).pendingStatus = none) ∧
    ((State.reset.setPort .office { LinkPort.blank with pendingStatus := some 1, transmitter := .frame }).port
      .office).pendingStatus.isSome = true := by decide +kernel

theorem witness_FrameTestsRefuse :
    (claiming.isUp = true ∧ (claiming.port (.lane 2)).outQueue.length < 3 ∧
      ((claiming.port (.lane 2)).inFlight.isSome = true)) ∧
    (BitVec.ofNat 8 (([] : List Byte).length + 1) + 0x02 + ([] : List Byte).sum + 0 ≠ (0 : Byte)) ∧
    (BitVec.ofNat 8 (([] : List Byte).length + 1) + 0x80 + ([] : List Byte).sum + 0x7F = (0 : Byte) ∧
      ∀ k ∈ kindsOf (.lane 2), k.code ≠ 0x80) ∧
    (BitVec.ofNat 8 (([] : List Byte).length + 1) + 0x02 + ([] : List Byte).sum + 0xFD = (0 : Byte) ∧
      ReqKind.container ∈ kindsOf (.lane 2) ∧ ReqKind.container.code = 0x02 ∧ ReqKind.container.lengthOk 0 = false) ∧
    (BitVec.ofNat 8 (([] : List Byte).length + 1) + 0x03 + ([] : List Byte).sum + 0xFC = (0 : Byte) ∧
      ReqKind.endSession ∈ kindsOf (.lane 2) ∧ ReqKind.endSession.code = 0x03 ∧ ReqKind.endSession.lengthOk 0 = true) ∧
    (requestOf (.endSession 2) = some (.lane 2, .endSession, []) ∧
      requestOf (.claim 1 []) = some (.checkout, .claim, [1]) ∧ ReqKind.claim.lengthOk 1 = false) := by decide +kernel

theorem witness_TransmissionEnds :
    (run1 .cornerStatus State.reset).isUp = true ∧ ((run1 .cornerStatus State.reset).port .office).transmitter = .frame ∧
      ((run1 (.probe .office) State.reset).port .office).transmitter = .status 0x62 ∧
      (State.reset.port .office).transmitter = .idle := by decide +kernel

/-- The office link with a number of waiting frames. -/
def waiting (n : Nat) : State :=
  State.reset.setPort .office { LinkPort.blank with outQueue := List.replicate n (frameOf 0x80 [0, 0, 0]), transmitter := .frame }

theorem witness_FullQueueDiscards :
    ∀ n ∈ [3, 4], requestOf .totalsRead = some (.office, .totalsRead, []) ∧ (waiting n).isUp = true ∧
      3 ≤ ((waiting n).port .office).outQueue.length := by decide +kernel

theorem witness_HoldUpRefusesPower :
    requestOf (.openSession 0) = some (.lane 0, .openSession, []) ∧
      requestOf .totalsRead = some (.office, .totalsRead, []) ∧
      requestOf (.tariffData [1]) = some (.office, .tariffData, [1]) ∧
      ReqKind.openSession ≠ .cornerStatus ∧ ReqKind.openSession.lengthOk 0 = true ∧ ReqKind.tariffData.lengthOk 1 = true ∧
      (inHoldUp peak).isUp = true ∧ (inHoldUp peak).supply.state = .holdUp ∧
      (∀ k : LaneId, ((inHoldUp peak).port (.lane k)).outQueue.length < 3) ∧
      ((inHoldUp peak).port (.lane 0)).passesBusy .openSession = true ∧
      ((inHoldUp peak).port .office).outQueue.length < 3 ∧ ((inHoldUp peak).port .office).passesBusy .totalsRead = true := by
  decide +kernel

theorem witness_ByteFrameIsRequest :
    requestOf (.recogWrite 3 1 5 6 7) =
        some (.office, .recogWrite, [3, 1, 0, 0, 0, 0, 0, 5, 0, 0, 0, 0, 0, 6, 7]) ∧
      (Instr.recogWrite 3 1 5 6 7).wellFormed = true ∧ (peak.port .office).receiver = .idle := by decide +kernel

/-- Lane 0 READY, with the given stack. -/
def readyLane (stack : List SlotId) : State :=
  { State.reset with
    lanes := State.reset.lanes.set 0 { Lane.cold with state := .ready }
    table := { VoucherTable.cold with stack := stack } }

theorem witness_OpenTakesSlot :
    ((readyLane [7, 9]).Takes (.lane 0) .openSession ∧ ((readyLane [7, 9]).lane 0).state = .ready ∧
      (readyLane [7, 9]).table.stack = 7 :: [9]) ∧
    ((readyLane []).Takes (.lane 0) .openSession ∧ ((readyLane []).lane 0).state = .ready ∧
      (readyLane []).table.stack = []) ∧
    (peak.Takes (.lane 0) .openSession ∧ (peak.lane 0).state ≠ .ready) := by
  unfold State.Takes
  decide +kernel

/-- Lane 0 ACTIVE, with class 4 replaced. -/
def classFour (c : TariffClass) : State := { peak with recog := { peak.recog with classes := peak.recog.classes.set 4 c } }

/-- Lane 0 with this firm credit and count. -/
def credited (credit count : Nat) : State :=
  peak.setLane 0 { active 8 0 with firmCredit := credit, firmCount := count }

/-- Lane 0 with the bin on chute 4 this full. -/
def filled (confirmed : Nat) : State := peak.setBin 3 (serving 2 6000 4 5500 confirmed 0 true)

theorem witness_ContainerRefused_tests :
    (peak.Takes (.lane 0) .container ∧ 8191 < (8192 : BitVec 16).toNat ∧ 1 < (2 : Byte).toNat) ∧
    (State.reset.Takes (.lane 0) .container ∧ (8191 : BitVec 16).toNat ≤ 8191 ∧ (State.reset.lane 0).state ≠ .active) ∧
    ((peak.lane 0).state = .active ∧ peak.NoEntryMatches 3 ∧ peak.FoundClass bottle.key 4 ∧
      peak.FoundClass can.key 12 ∧ peak.recog.classes[12] = ⟨25, 2, 20, 5, 60, true⟩) := by
  unfold State.Takes State.NoEntryMatches State.FoundClass
  decide +kernel

theorem witness_ContainerRefused_class (c : TariffClass) :
    (classFour c).Takes (.lane 0) .container ∧ ((classFour c).lane 0).state = .active ∧
      (classFour c).FoundClass bottle.key 4 ∧ (classFour c).recog.classes[4] = c := by
  refine ⟨witness_ContainerRefused_tests.1.1, witness_ContainerRefused_tests.2.2.1,
    witness_ContainerRefused_tests.2.2.2.2.1, ?_⟩
  simp [classFour]

theorem witness_ContainerRefused_checks :
    (⟨25, 0, 50, 10, 100, false⟩ : TariffClass).material = 0 ∧
    ¬ (classFour ⟨25, 7, 50, 10, 100, false⟩).MaterialOpen 0 7 ∧
    ((classFour ⟨25, 1, 50, 41, 100, false⟩).MaterialOpen 0 1 ∧
      ¬ (⟨25, 1, 50, 41, 100, false⟩ : TariffClass).WeighsIn 40 ∧
      ¬ (⟨25, 1, 50, 10, 39, false⟩ : TariffClass).WeighsIn 40) ∧
    ((classFour ⟨25, 1, 50, 40, 40, true⟩).MaterialOpen 0 1 ∧
      (⟨25, 1, 50, 40, 40, true⟩ : TariffClass).WeighsIn 40 ∧ ¬ (⟨25, 1, 50, 40, 40, true⟩ : TariffClass).ShapeIn false) ∧
    ((credited 49976 3).MaterialOpen 0 2 ∧ (⟨25, 2, 20, 5, 60, true⟩ : TariffClass).WeighsIn 15 ∧
      (⟨25, 2, 20, 5, 60, true⟩ : TariffClass).ShapeIn true ∧ ¬ (credited 49976 3).CreditRoom 0 25 ∧
      ¬ (credited 0 999).CreditRoom 0 25) ∧
    ((filled 5996).MaterialOpen 0 2 ∧ (filled 5996).CreditRoom 0 25 ∧ (∀ b, ¬ (filled 5996).HasRoom 2 20 b) ∧
      (filled 5995).HasRoom 2 20 3) := by
  unfold State.MaterialOpen TariffClass.WeighsIn TariffClass.ShapeIn State.CreditRoom State.HasRoom
  decide +kernel

theorem witness_ContainerJoins :
    peak.Takes (.lane 0) .container ∧ bottle.weight.toNat ≤ 8191 ∧ bottle.keyPresent = 1 ∧ bottle.shapeOk.toNat ≤ 1 ∧
      (peak.lane 0).state = .active ∧ peak.FoundClass bottle.key 4 ∧ peak.recog.classes[4] = ⟨25, 1, 50, 10, 100, false⟩ ∧
      peak.MaterialOpen 0 1 ∧ (⟨25, 1, 50, 10, 100, false⟩ : TariffClass).WeighsIn 40 ∧
      (⟨25, 1, 50, 10, 100, false⟩ : TariffClass).ShapeIn false ∧ peak.CreditRoom 0 25 ∧ peak.HasRoom 1 50 1 := by
  unfold State.Takes State.FoundClass State.MaterialOpen TariffClass.WeighsIn TariffClass.ShapeIn State.CreditRoom
    State.HasRoom
  decide +kernel

theorem witness_PassDecidesClaim :
    (peak.GapClear ⟨2, 4, 25, 1, 50, 0, 8000⟩ ∧ peak.plans.active.lanes[(2 : LaneId)].materials.getLsbD 1 = true ∧
      ∃ b, peak.HasRoom 1 50 b) ∧
    (peak.GapClear ⟨2, 4, 25, 3, 50, 0, 8000⟩ ∧ peak.plans.active.lanes[(2 : LaneId)].materials.getLsbD 3 = false) ∧
    ((filled 5996).GapClear ⟨2, 12, 25, 2, 20, 0, 8000⟩ ∧ ∀ b, ¬ (filled 5996).HasRoom 2 20 b) ∧
    ¬ (riding 10902).GapClear ⟨3, 4, 25, 1, 50, 0, 8000⟩ ∧ ¬ State.reset.GapClear ⟨2, 4, 25, 1, 50, 0, 8000⟩ ∧
    (peak.merge.claims = [] ∧ claiming.merge.claims = ⟨2, 4, 25, 1, 50, 0, 8000⟩ :: []) := by
  unfold State.GapClear State.HasRoom
  decide +kernel

theorem witness_GrantFormsRecord :
    peak.grantedRecord ⟨2, 4, 25, 1, 50, 0, 8000⟩ 1 =
      { lane := 2, attached := true, deposit := 25, bin := 1, volume := (50 * (peak.bin 1).ratio + 15) / 16
        due := peak.belt.count + BitVec.ofNat 16 (peakPlan.lanes[2].offset + peakPlan.lanes[2].dropLead) } := by
  decide +kernel

theorem witness_EndOfSession :
    (peak.Takes (.lane 0) .endSession ∧ (peak.lane 0).state = .active ∧ (peak.lane 0).transitCount = 0 ∧
      (peak.lane 0).slot = some 8) ∧
    ((riding 10000).Takes (.lane 0) .endSession ∧ ((riding 10000).lane 0).state = .active ∧
      0 < ((riding 10000).lane 0).transitCount) ∧
    (State.reset.Takes (.lane 0) .endSession ∧ (State.reset.lane 0).state = .parked) ∧
    ((readyLane []).Takes (.lane 0) .endSession ∧ ((readyLane []).lane 0).state = .ready) := by
  unfold State.Takes
  decide +kernel

theorem witness_ClaimVoucher :
    (peak.Takes .checkout .claim ∧ 1 ≤ (1 : Byte).toNat ∧ (15 : Byte).toNat ≤ 15 ∧
      peak.table.slot 0 = .issued oldVoucher) ∧
    (claimedBy3.Takes .checkout .claim ∧ claimedBy3.table.slot 0 = .claimed oldVoucher (3 : Byte).toNat 500) ∧
    (claimedBy3.table.slot 0 = .claimed oldVoucher 3 500 ∧ 3 ≠ (15 : Byte).toNat) := by
  unfold State.Takes
  decide +kernel

theorem witness_RedeemAndUnclaim :
    (claimedBy3.Takes .checkout .redeem ∧ claimedBy3.Takes .checkout .unclaim ∧ 1 ≤ (3 : Byte).toNat ∧
      claimedBy3.table.slot 0 = .claimed oldVoucher (3 : Byte).toNat 500) ∧
    (claimedBy3.table.slot 0 = .claimed oldVoucher 3 500 ∧ 3 ≠ (1 : Byte).toNat) ∧
    (peak.Takes .checkout .redeem ∧ peak.Takes .checkout .unclaim ∧ peak.table.slot 0 = .issued oldVoucher) := by
  unfold State.Takes
  decide +kernel

theorem witness_CodeTestsRefuse :
    peak.Takes .checkout .claim ∧
    (¬ (1 ≤ (16 : Byte).toNat ∧ (16 : Byte).toNat ≤ 15)) ∧ ¬ (1 ≤ (0 : Byte).toNat ∧ (0 : Byte).toNat ≤ 15) ∧
    (∃ d ∈ [0, 0, 0, 10, 5, 0, 0, 4], 9 < d) ∧
    ([0, 0, 0, 0, 5, 0, 0, 4].getLast? ≠ some (checkDigit ([0, 0, 0, 0, 5, 0, 0, 4].take 7))) ∧
    ([8, 3, 8, 8, 6, 0, 8, 9].getLast? = some (checkDigit ([8, 3, 8, 8, 6, 0, 8, 9].take 7)) ∧
      128 ≤ digitsNumber ([8, 3, 8, 8, 6, 0, 8, 9].take 7) / 65536) ∧
    ([0, 0, 0, 0, 5, 0, 1, 2].getLast? = some (checkDigit ([0, 0, 0, 0, 5, 0, 1, 2].take 7)) ∧
      digitsNumber ([0, 0, 0, 0, 5, 0, 1, 2].take 7) = 501 ∧ oldVoucher.serial.toNat ≠ 501) ∧
    peak.table.slot 127 = .free := by
  unfold State.Takes
  decide +kernel

theorem witness_VoucherCodesCheck :
    ([0, 7, 2, 1, 3, 9, 7] : List Nat).length = 7 ∧ (∀ x ∈ [0, 7, 2, 1, 3, 9, 7], x ≤ 9) ∧
      [0, 7, 2, 1, 3, 9, 7][6]? ≠ some 9 := by decide

theorem witness_ReadRequests :
    claiming.Takes (.lane 2) .laneQuery ∧
    (peak.isUp = true ∧ (peak.port .office).outQueue.length < 3 ∧ (peak.port .office).inFlight = none ∧
      peak.supply.state = .normal) ∧
    (64 ≤ (64 : Byte).toNat ∧ 32 ≤ (32 : Byte).toNat ∧ 8 ≤ (8 : Byte).toNat ∧ 128 ≤ (128 : Byte).toNat) ∧
    (peak.table.slot 0).used = true ∧ (peak.table.slot 127 = .free ∧ (127 : SlotId) ∈ peak.table.stack) ∧
    (peak.SlotsConserved ∧ (peak.lane 0).slot = some 8) ∧
    (1 < (2 : Byte).toNat ∧ (20 : Byte) ≠ PartSel.corner.byte ∧ (∀ k, (20 : Byte) ≠ (PartSel.lane k).byte) ∧
      ∀ b, (20 : Byte) ≠ (PartSel.bin b).byte) := by
  unfold State.Takes State.SlotsConserved
  decide +kernel

theorem witness_BeltRequests :
    (peak.isUp = true ∧ (peak.port .office).outQueue.length < 3 ∧ (peak.port .office).inFlight = none ∧
      peak.supply.state = .normal ∧ peak.belt.eyeBlocked = false) ∧ (watching 10100).belt.eyeBlocked = true := by
  decide +kernel

theorem witness_RecogWrite :
    peak.Takes .office .recogWrite ∧
    ((63 : Byte).toNat = (63 : EntryId).val ∧ (31 : Byte).toNat = (31 : ClassId).val ∧ (1 : Byte).toNat ≤ 1) ∧
    (64 ≤ (64 : Byte).toNat ∧ 32 ≤ (32 : Byte).toNat ∧ 1 < (2 : Byte).toNat) := by
  unfold State.Takes
  decide +kernel

/-- A tariff load cursor stands open. -/
def loading (index : Nat) (held : List Byte) : State :=
  { peak with recog := { peak.recog with cursor := some ⟨index, held⟩ } }

theorem witness_TariffLoad :
    (peak.Takes .office .tariffBegin ∧ 32 ≤ (32 : Byte).toNat) ∧
    (peak.Takes .office .tariffData ∧ peak.recog.cursor = none ∧ 1 ≤ ([0] : List Byte).length ∧
      (List.replicate 112 (0 : Byte)).length ≤ 112) ∧
    ∀ index ∈ [0, 31, 32], (loading index (List.replicate 9 0)).Takes .office .tariffData ∧
      (loading index (List.replicate 9 0)).recog.cursor = some ⟨index, List.replicate 9 0⟩ ∧ index ≤ 32 := by
  unfold State.Takes
  decide +kernel

theorem witness_BinRequests :
    (peak.isUp = true ∧ (peak.port .office).outQueue.length < 3 ∧ (peak.port .office).inFlight = none ∧
      peak.supply.state = .normal ∧ 1 ≤ peak.corner.rejectLimit) ∧
    ((0 : Byte).toNat = 0 ∧ 7 < (8 : Byte).toNat) ∧
    ((peak.bin 0).state = .out ∧ (peak.bin 1).state = .serving ∧ (peak.bin 1).reserved = 0 ∧
      ((riding 10000).bin 1).state = .serving ∧ 0 < ((riding 10000).bin 1).reserved) ∧
    (((run1 (.binRelease 2) peak).bin 1).state = .released ∧
      ((run1 (.binRelease 2) (riding 10000)).bin 1).state = .draining .released) := by decide +kernel

theorem witness_VoidAndPeriodClose :
    (peak.isUp = true ∧ (peak.port .office).outQueue.length < 3 ∧ (peak.port .office).inFlight = none ∧
      peak.supply.state = .normal) ∧
    peak.table.slot 0 = .issued oldVoucher ∧ claimedBy3.table.slot 0 = .claimed oldVoucher 3 500 ∧
    peak.table.slot 127 = .free ∧ oldVoucher.serial ≠ 501 ∧ 128 ≤ (128 : Byte).toNat := by decide +kernel

theorem witness_PlanStage :
    peak.Takes .office .planStage ∧ GlobalPart.cold.inRange = true ∧ (LanePart.cold 6000).inRange = true ∧
      BinPart.cold.inRange = true ∧
      ((0x14 : Byte) ≠ PartSel.corner.byte ∧ (∀ k, (0x14 : Byte) ≠ (PartSel.lane k).byte) ∧
        ∀ b, (0x14 : Byte) ≠ (PartSel.bin b).byte) := by
  unfold State.Takes
  decide +kernel

/-- The peak state with another staged plan. -/
def staging (p : Plan) : State := { riding 10000 with plans := { staged := p, active := peakPlan } }

/-- The plan of section 12.3 with another global part. -/
def withCorner (g : GlobalPart) : Plan := { peakPlan with corner := g }

/-- The plan of section 12.3 with another part for the bin on chute 4. -/
def withBinFour (b : BinPart) : Plan := { peakPlan with bins := peakPlan.bins.set 3 b }

theorem witness_PlanApplyRefused :
    (riding 10000).Takes .office .planApply ∧
    (¬ (staging (withCorner { GlobalPart.cold with gap := 7 })).PlanCheck 1) ∧
    ((staging (withCorner { GlobalPart.cold with gap := 48 })).PlanCheck 1 ∧
      ¬ (staging (withCorner { GlobalPart.cold with gap := 48 })).PlanCheck 2) ∧
    ((staging (withCorner { GlobalPart.cold with releaseMark := 40 })).PlanCheck 2 ∧
      ¬ (staging (withCorner { GlobalPart.cold with releaseMark := 40 })).PlanCheck 3) ∧
    (¬ (staging (withBinFour ⟨.serving, 3, 6000, 4, 5500⟩)).PlanCheck 5) ∧
    (¬ (staging (withBinFour ⟨.serving, 2, 3004, 4, 3000⟩)).PlanCheck 6) ∧
    (¬ (staging (withCorner { GlobalPart.cold with gap := 201 })).PlanCheck 7) := by
  simp only [State.Takes, State.PlanCheck]
  decide +kernel

theorem witness_PlanApplyRefused_materials : ¬ (staging (withBinFour ⟨.out, 2, 6000, 4, 5500⟩)).PlanCheck 4 := by
  intro h
  obtain ⟨b, hb⟩ := h 0 (by decide +kernel) 2 (by omega) (by omega) (by decide +kernel)
  revert hb
  revert b
  decide +kernel

theorem witness_PlanApplyTaken :
    (riding 10000).Takes .office .planApply ∧ ((riding 10000).PlanCheck 1 ∧ (riding 10000).PlanCheck 2 ∧
      (riding 10000).PlanCheck 3 ∧ (riding 10000).PlanCheck 5 ∧ (riding 10000).PlanCheck 6 ∧
      (riding 10000).PlanCheck 7) := by
  simp only [State.Takes, State.PlanCheck]
  decide +kernel

theorem witness_PlanApplyTaken_materials : (riding 10000).PlanCheck 4 := by
  have accepted : ∀ (k : LaneId) (n : Fin 8), peakPlan.lanes[k].materials.getLsbD n.val = true → n.val = 1 ∨ n.val = 2 := by
    decide +kernel
  intro k _ m h1 h7 hm
  rcases accepted k ⟨m, by omega⟩ hm with h | h
  · have : m = 1 := h
    subst this
    exact ⟨1, by decide +kernel⟩
  · have : m = 2 := h
    subst this
    exact ⟨3, by decide +kernel⟩

theorem witness_FrameEnvelope :
    peak.table.slot 0 = .issued oldVoucher ∧ claimedBy3.table.slot 0 = .claimed oldVoucher 3 500 := by decide +kernel

/-- VOUCHER-RECORD of a claimed slot: 119,500 ms are left, 11,950 steps (R171). -/
theorem test_voucherRecord :
    (Response.voucherRecord 0 (.claimed oldVoucher 3 500) 0).body =
      [0, 2, 0, 0x01, 0xF4, 0x4E, 0x20, 0x03, 0x20, 0, 1, 0, 0, 0, 0, 0, 5, 0, 0, 5, 3, 0x2E, 0xAE] := by decide +kernel

/-- The ends of the range of R129: 120,000 ms at the claim and 10 ms at the last step, the one at which the lapse waits
included. -/
theorem test_lapseRemaining :
    lapseRemaining 0 = 12000 ∧ lapseRemaining 119980 = 2 ∧ lapseRemaining 119990 = 1 ∧ lapseRemaining 120000 = 1 := by
  decide

theorem witness_RecordsAndPartsRoundTrip :
    (⟨5000, 7, 400, 0, 8191, true⟩ : TariffClass).inRange = true ∧ GlobalPart.cold.inRange = true ∧
      (LanePart.cold 64).inRange = true ∧ BinPart.cold.inRange = true := by decide

/-- A step of the state in which records are on the belt answers a next state. -/
theorem witness_step : ∃ t, step { riding 10000 with pending := [.container 1 bottle] } = .next t := ⟨_, rfl⟩

theorem witness_StepKeepsFlags : (riding 10000).FlagsAgree := by
  unfold State.FlagsAgree
  decide +kernel

theorem witness_StepKeepsSlotsAndOutstanding : (riding 10000).SlotsConserved ∧ (riding 10000).OutstandingAgrees := by
  unfold State.SlotsConserved State.OutstandingAgrees
  decide +kernel

theorem witness_StepKeepsClaimsInFlight : claiming.ClaimsInFlight ∧ claiming.QueuesBounded := by
  refine ⟨by unfold State.ClaimsInFlight; decide +kernel, ?_⟩
  rintro (k | _ | _)
  · revert k; decide +kernel
  · decide +kernel
  · decide +kernel

theorem witness_StepKeepsBinLaws : (riding 10000).BinsKeepLaws := by
  intro b
  refine ⟨by revert b; decide +kernel, fun _ => ⟨by revert b; decide +kernel, by revert b; decide +kernel, ?_⟩⟩
  rintro (_ | _) <;> revert b <;> decide +kernel

theorem witness_StepKeepsCredit :
    (riding 10000).ClaimsInFlight ∧ (riding 10000).TransitFiguresAgree ∧ (riding 10000).CreditLimited := by
  unfold State.ClaimsInFlight State.TransitFiguresAgree State.CreditLimited
  decide +kernel

theorem witness_StepKeepsBeltSpaced :
    (riding 10000).PlanInRange ∧ (riding 10000).BeltSpaced ∧ (riding 10000).MergeHoldMarked := by
  unfold State.PlanInRange State.BeltSpaced State.MergeHoldMarked
  decide +kernel

theorem witness_StepKeepsStatusBytes :
    (settlingHead 13000).ParkPendingInSession ∧ (settlingHead 13000).SettleTimersRun := by
  unfold State.ParkPendingInSession State.SettleTimersRun
  decide +kernel

end Sys2Proof.Tests
end

section
/-! The arithmetic of belt positions (R1) and of compacted volumes (R101). -/

namespace Sys2Proof.Machine

/-! ### Signed distances (R1) -/

/-- A distance forward of less than half the circle is read as it stands. -/
theorem signedDistance_of_lt {a b : Count} (h : (a - b).toNat < 32768) :
    signedDistance b a = (a - b).toNat := if_pos h

/-- A distance forward of half the circle or more is read as a distance back. -/
theorem signedDistance_of_ge {a b : Count} (h : 32768 ≤ (a - b).toNat) :
    signedDistance b a = (a - b).toNat - 65536 := if_neg (Nat.not_lt.mpr h)

/-- R1's two steps read the difference of the counts as a two's-complement number. -/
theorem signedDistance_eq_toInt (b a : Count) : signedDistance b a = (a - b).toInt := by
  rw [BitVec.toInt_eq_toNat_cond]
  rcases Nat.lt_or_ge (a - b).toNat 32768 with h | h
  · rw [signedDistance_of_lt h, if_pos (by omega)]
  · rw [signedDistance_of_ge h, if_neg (by omega)]
    norm_num

theorem le_signedDistance (b a : Count) : -32768 ≤ signedDistance b a := by
  simpa [signedDistance_eq_toInt] using BitVec.le_toInt (a - b)

theorem signedDistance_le (b a : Count) : signedDistance b a ≤ 32767 := by
  have h : (a - b).toInt < 32768 := by simpa using BitVec.toInt_lt (x := a - b)
  rw [signedDistance_eq_toInt]
  omega

/-! ### Compacted volumes (R101) -/

/-- Rounded up: sixteen of the compacted volume hold the product. -/
theorem le_sixteen_mul_compactedVolume (v c : Nat) : v * c ≤ 16 * compactedVolume v c := by
  unfold compactedVolume
  omega

/-- Rounded up to the next whole unit only: one unit less would not hold the product. -/
theorem sixteen_mul_compactedVolume_lt (v c : Nat) : 16 * compactedVolume v c < v * c + 16 := by
  unfold compactedVolume
  omega

theorem one_le_compactedVolume {v c : Nat} (hv : 1 ≤ v) (hc : 1 ≤ c) : 1 ≤ compactedVolume v c := by
  have hpos : 0 < v * c := Nat.mul_pos hv hc
  have hle := le_sixteen_mul_compactedVolume v c
  omega

/-- At the largest ratio, 16, nothing is compacted, so the bound of the volume is the bound of the compacted volume. -/
theorem compactedVolume_le {v c : Nat} (hv : v ≤ 400) (hc : c ≤ 16) : compactedVolume v c ≤ 400 := by
  have hprod : v * c ≤ 400 * 16 := Nat.mul_le_mul hv hc
  have hlt := sixteen_mul_compactedVolume_lt v c
  omega

/-- Settles O53: the two cases of R1 and the range of a 16-bit two's-complement number; then the two bounds of rounding up,
from which the range of R101 follows. -/
theorem beltAndVolumeArithmetic : Obligations.BeltAndVolumeArithmetic :=
  ⟨fun a b => ⟨signedDistance_of_lt, signedDistance_of_ge, le_signedDistance b a, signedDistance_le b a⟩,
    fun v c => ⟨le_sixteen_mul_compactedVolume v c, sixteen_mul_compactedVolume_lt v c,
      fun hv hv' hc hc' => ⟨one_le_compactedVolume hv hc, compactedVolume_le hv' hc'⟩⟩⟩

end Sys2Proof.Machine
end

section
/-! A tariff load (Chapter 2.4): how a stream of bytes is cut into records, what the records of a frame do to the classes and
the counts, and the requests TARIFF-BEGIN and TARIFF-DATA. -/

namespace Sys2Proof.Machine

/-! ### A request that is only answered (R157, R159) -/

/-- A frame that joins the queue of a link whose receiver has returned to IDLE. -/
theorem LinkPort.answered_enqueue {p : LinkPort} (h : p.receiver = .idle) (f : List Byte) :
    p.Answered (p.enqueue f) f p.inFlight p.notices :=
  ⟨(p.enqueue_receiver f).trans h, p.enqueue_inFlight f, p.enqueue_outQueue f, p.enqueue_notices f, p.enqueue_power f,
    p.enqueue_busy f, p.enqueue_idle f, p.enqueue_status f⟩

/-- A response on a state that differs from `s`, as far as the links go, by the idle receiver of the asking link. -/
theorem State.onlyAnswers_respond {s u : State} {l : Link} (r : Response) (h : u.ports = (s.setReceiver l .idle).ports) :
    s.OnlyAnswers (u.respond l r) l r := by
  have hport : ∀ m, u.port m = (s.setReceiver l .idle).port m := fun m => by simp only [State.port, h]
  constructor
  · rw [State.respond_port_self, hport, State.setReceiver_port_self]
    exact LinkPort.answered_enqueue (p := { s.port l with receiver := .idle }) rfl r.frame
  · intro m hm
    simp [hport, hm]

/-- A request that its link takes reaches its owner. -/
theorem State.Takes.requestCompletes_eq {s : State} {l : Link} {k : ReqKind} (h : s.Takes l k) {n : Nat}
    (hn : k.lengthOk n = true) (take : State → State) :
    s.requestCompletes l k n take =
      take (if closesCursor l k then (s.setReceiver l .idle).closeCursor else s.setReceiver l .idle) := by
  obtain ⟨hup, hqueue, hbusy, hsupply⟩ := h
  exact s.requestCompletes_taken l k n take hup hqueue hn hbusy hsupply

/-! ### The records of a stream (R34) -/

/-- Record `m` of a stream: the ten bytes from byte 10 `m` on. -/
def recordAt (stream : List Byte) (m : Nat) : List Byte := (stream.drop (10 * m)).take 10

/-- The complete records of a stream, in order. -/
def recordsOf (stream : List Byte) : List (List Byte) := (List.range (stream.length / 10)).map (recordAt stream)

/-- The bytes behind the last complete record of a stream. -/
def leftoverOf (stream : List Byte) : List Byte := stream.drop (10 * (stream.length / 10))

@[simp] theorem recordsOf_length (stream : List Byte) : (recordsOf stream).length = stream.length / 10 := by
  simp [recordsOf]

@[simp] theorem leftoverOf_length (stream : List Byte) : (leftoverOf stream).length = stream.length % 10 := by
  simp only [leftoverOf, List.length_drop]
  omega

theorem recordsOf_getElem? {stream : List Byte} {m : Nat} (h : m < stream.length / 10) :
    (recordsOf stream)[m]? = some (recordAt stream m) := by
  simp [recordsOf, h]

theorem recordsOf_getElem?_of_ge {stream : List Byte} {m : Nat} (h : stream.length / 10 ≤ m) :
    (recordsOf stream)[m]? = none := by
  simp [h]

/-- A short stream holds no record. -/
theorem recordsOf_of_length_le {stream : List Byte} (h : stream.length ≤ 9) : recordsOf stream = [] := by
  simp [recordsOf, Nat.div_eq_of_lt (show stream.length < 10 by omega)]

theorem leftoverOf_of_length_le {stream : List Byte} (h : stream.length ≤ 9) : leftoverOf stream = stream := by
  simp [leftoverOf, Nat.div_eq_of_lt (show stream.length < 10 by omega)]

/-- The records that fall on classes, counted by their places in the stream. -/
theorem countP_take_recordsOf (stream : List Byte) (room : Nat) (p : List Byte → Bool) :
    ((recordsOf stream).take room).countP p =
      (List.range (stream.length / 10 - (stream.length / 10 - room))).countP fun m => p (recordAt stream m) := by
  have hmin : min room (stream.length / 10) = stream.length / 10 - (stream.length / 10 - room) := by omega
  rw [recordsOf, ← List.map_take, List.take_range, List.countP_map, hmin]
  rfl

/-- Bytes that come later leave a complete record as it is. -/
theorem recordAt_append {stream : List Byte} {m : Nat} (h : m < stream.length / 10) (later : List Byte) :
    recordAt (stream ++ later) m = recordAt stream m := by
  unfold recordAt
  rw [List.drop_append_of_le_length (by omega), List.take_append_of_le_length (by simp; omega)]

theorem map_recordAt_append (stream later : List Byte) :
    (List.range (stream.length / 10)).map (recordAt (stream ++ later)) = recordsOf stream :=
  List.map_congr_left fun _ hm => recordAt_append (List.mem_range.mp hm) later

/-- A byte that completes no record joins the leftover. -/
theorem recordsOf_concat_of_lt {stream : List Byte} (h : stream.length % 10 < 9) (b : Byte) :
    recordsOf (stream ++ [b]) = recordsOf stream ∧ leftoverOf (stream ++ [b]) = leftoverOf stream ++ [b] := by
  have hcount : (stream ++ [b]).length / 10 = stream.length / 10 := by simp; omega
  constructor
  · rw [recordsOf, hcount, map_recordAt_append]
  · rw [leftoverOf, hcount, List.drop_append_of_le_length (by omega), leftoverOf]

/-- The tenth byte makes a record of the leftover. -/
theorem recordsOf_concat_of_eq {stream : List Byte} (h : stream.length % 10 = 9) (b : Byte) :
    recordsOf (stream ++ [b]) = recordsOf stream ++ [leftoverOf stream ++ [b]] ∧ leftoverOf (stream ++ [b]) = [] := by
  have hcount : (stream ++ [b]).length / 10 = stream.length / 10 + 1 := by simp; omega
  constructor
  · have hlast : recordAt (stream ++ [b]) (stream.length / 10) = leftoverOf stream ++ [b] := by
      rw [recordAt, List.drop_append_of_le_length (by omega)]
      exact List.take_of_length_le (by simp; omega)
    rw [recordsOf, hcount, List.range_succ, List.map_append, map_recordAt_append, List.map_singleton, hlast]
  · rw [leftoverOf, hcount]
    exact List.drop_of_length_le (by simp; omega)

/-! ### The bytes of a frame (R34) -/

theorem tariffByte_of_lt {held : List Byte} (h : held.length < 9) (l : TariffLoad) (b : Byte) :
    tariffByte (l, held) b = (l, held ++ [b]) := by
  have hne : held.length + 1 ≠ 10 := by omega
  simp [tariffByte, hne]

theorem tariffByte_of_eq {held : List Byte} (h : held.length = 9) (l : TariffLoad) (b : Byte) :
    tariffByte (l, held) b = (l.dispose (held ++ [b]), []) := by
  simp [tariffByte, h]

/-- Taken byte by byte, a stream has its records disposed of in order and its leftover held. -/
theorem foldl_tariffByte (l : TariffLoad) (stream : List Byte) :
    stream.foldl tariffByte (l, []) = ((recordsOf stream).foldl TariffLoad.dispose l, leftoverOf stream) := by
  induction stream using List.reverseRecOn with
  | nil => rfl
  | append_singleton stream b ih =>
    rw [List.foldl_append, ih, List.foldl_cons, List.foldl_nil]
    rcases Nat.lt_or_ge (stream.length % 10) 9 with hlt | hge
    · obtain ⟨hrecords, hleft⟩ := recordsOf_concat_of_lt hlt b
      rw [tariffByte_of_lt (by simpa using hlt), hrecords, hleft]
    · have heq : stream.length % 10 = 9 := by omega
      obtain ⟨hrecords, hleft⟩ := recordsOf_concat_of_eq heq b
      rw [tariffByte_of_eq (by simpa using heq), hrecords, hleft, List.foldl_append, List.foldl_cons, List.foldl_nil]

/-! ### The disposal of records by the cursor index (R35) -/

namespace TariffLoad

theorem dispose_some {l : TariffLoad} {record : List Byte} {c : TariffClass} (h : l.index < 32)
    (hc : TariffClass.decode record = some c) :
    l.dispose record =
      { l with classes := l.classes.set l.index c h, index := l.index + 1, written := l.written + 1 } := by
  simp [dispose, h, hc]

theorem dispose_none {l : TariffLoad} {record : List Byte} (h : l.index < 32)
    (hc : TariffClass.decode record = none) :
    l.dispose record = { l with index := l.index + 1, rejected := l.rejected + 1 } := by
  simp [dispose, h, hc]

theorem dispose_overflow {l : TariffLoad} (record : List Byte) (h : 32 ≤ l.index) :
    l.dispose record = { l with overflowed := l.overflowed + 1 } := by
  simp [dispose, Nat.not_lt.mpr h]

/-- Past class 31 every record overflows. -/
theorem foldl_dispose_overflow {l : TariffLoad} (records : List (List Byte)) (h : 32 ≤ l.index) :
    records.foldl dispose l = { l with overflowed := l.overflowed + records.length } := by
  induction records generalizing l with
  | nil => rfl
  | cons record records ih =>
    rw [List.foldl_cons, dispose_overflow record h, ih (by exact h), List.length_cons, Nat.add_assoc, Nat.add_comm 1]

/-- A record within the table moves the index on by one, and is counted as written or as rejected. -/
theorem dispose_within {l : TariffLoad} (record : List Byte) (h : l.index < 32) :
    (l.dispose record).index = l.index + 1 ∧
      (l.dispose record).overflowed = l.overflowed ∧
      (l.dispose record).written = l.written + (if (TariffClass.decode record).isSome then 1 else 0) ∧
      (l.dispose record).written + (l.dispose record).rejected = l.written + l.rejected + 1 := by
  cases hc : TariffClass.decode record with
  | some c => rw [dispose_some h hc]; simp; omega
  | none => rw [dispose_none h hc]; simp; omega

/-- A record replaces the class at the index, if it is in range, and no other. -/
theorem dispose_classes {l : TariffLoad} (record : List Byte) (h : l.index < 32) (j : ClassId) :
    (l.dispose record).classes[j] =
      if l.index = j.val then (TariffClass.decode record).getD l.classes[j] else l.classes[j] := by
  cases hc : TariffClass.decode record with
  | some c => rw [dispose_some h hc]; simp [Vector.getElem_set]
  | none => rw [dispose_none h hc]; simp

/-- The index and the counts after a list of records: the first `32 - index` of them fall on classes. -/
theorem foldl_dispose_counts {l : TariffLoad} (records : List (List Byte)) (h : l.index ≤ 32) :
    (records.foldl dispose l).index = min 32 (l.index + records.length) ∧
      (records.foldl dispose l).overflowed = l.overflowed + (records.length - (32 - l.index)) ∧
      (records.foldl dispose l).written =
        l.written + (records.take (32 - l.index)).countP (fun record => (TariffClass.decode record).isSome) ∧
      (records.foldl dispose l).written + (records.foldl dispose l).rejected + (records.foldl dispose l).overflowed =
        l.written + l.rejected + l.overflowed + records.length := by
  induction records generalizing l with
  | nil => simp [h]
  | cons record records ih =>
    rcases Nat.lt_or_ge l.index 32 with hlt | hge
    · obtain ⟨hindex, hover, hwritten, hsum⟩ := dispose_within record hlt
      obtain ⟨ihIndex, ihOver, ihWritten, ihSum⟩ := ih (l := l.dispose record) (by omega)
      have htake : 32 - l.index = 32 - (l.index + 1) + 1 := by omega
      rw [hindex] at ihIndex ihOver ihWritten
      rw [List.foldl_cons, List.length_cons, htake, List.take_succ_cons, List.countP_cons]
      omega
    · have hfull : 32 - l.index = 0 := by omega
      rw [foldl_dispose_overflow _ hge, hfull]
      simp
      omega

/-- Classes before the index stay. -/
theorem foldl_dispose_classes_of_lt (records : List (List Byte)) {l : TariffLoad} {j : ClassId} (h : j.val < l.index) :
    (records.foldl dispose l).classes[j] = l.classes[j] := by
  induction records generalizing l with
  | nil => rfl
  | cons record records ih =>
    rcases Nat.lt_or_ge l.index 32 with hlt | hge
    · obtain ⟨hindex, -⟩ := dispose_within record hlt
      rw [List.foldl_cons, ih (by omega), dispose_classes record hlt, if_neg (by omega)]
    · rw [foldl_dispose_overflow _ hge]

/-- The class `m` places after the index takes record `m`, if there is one and it is in range. -/
theorem foldl_dispose_classes (records : List (List Byte)) {l : TariffLoad} {j : ClassId} {m : Nat}
    (h : l.index + m = j.val) :
    (records.foldl dispose l).classes[j] = (records[m]?.bind TariffClass.decode).getD l.classes[j] := by
  induction records generalizing l m with
  | nil => simp
  | cons record records ih =>
    have hlt : l.index < 32 := by omega
    obtain ⟨hindex, -⟩ := dispose_within record hlt
    cases m with
    | zero =>
      rw [List.foldl_cons, foldl_dispose_classes_of_lt records (by omega), dispose_classes record hlt, if_pos (by omega)]
      simp
    | succ m =>
      rw [List.foldl_cons, ih (m := m) (by omega), dispose_classes record hlt, if_neg (by omega), List.getElem?_cons_succ]

end TariffLoad

/-! ### The frame as a whole (R34, R35) -/

/-- A frame before its first byte (R35). -/
def Recognition.startLoad (r : Recognition) (index : Nat) : TariffLoad :=
  { classes := r.classes, index := index, written := 0, rejected := 0, overflowed := 0 }

@[simp] theorem Recognition.startLoad_index (r : Recognition) (index : Nat) : (r.startLoad index).index = index := rfl
@[simp] theorem Recognition.startLoad_written (r : Recognition) (index : Nat) : (r.startLoad index).written = 0 := rfl
@[simp] theorem Recognition.startLoad_rejected (r : Recognition) (index : Nat) : (r.startLoad index).rejected = 0 := rfl
@[simp] theorem Recognition.startLoad_overflowed (r : Recognition) (index : Nat) :
    (r.startLoad index).overflowed = 0 := rfl

/-- A frame is cut together with the bytes held before it: these are what byte by byte an empty cursor would hold. -/
theorem Recognition.load_eq (r : Recognition) {c : Cursor} (hheld : c.bytes.length ≤ 9) (bytes : List Byte) :
    r.load c bytes =
      ((recordsOf (c.bytes ++ bytes)).foldl TariffLoad.dispose (r.startLoad c.index), leftoverOf (c.bytes ++ bytes)) := by
  have hstart : c.bytes.foldl tariffByte (r.startLoad c.index, []) = (r.startLoad c.index, c.bytes) := by
    rw [foldl_tariffByte, recordsOf_of_length_le hheld, leftoverOf_of_length_le hheld, List.foldl_nil]
  rw [← foldl_tariffByte, List.foldl_append, hstart]
  rfl

/-- The index and the counts after a frame; the records that fall on classes are counted by their places in the stream. -/
theorem Recognition.load_counts (r : Recognition) {c : Cursor} (hindex : c.index ≤ 32) (hheld : c.bytes.length ≤ 9)
    (bytes : List Byte) {stream : List Byte} (hstream : stream = c.bytes ++ bytes) :
    (r.load c bytes).1.index = min 32 (c.index + stream.length / 10) ∧
      (r.load c bytes).1.overflowed = stream.length / 10 - (32 - c.index) ∧
      (r.load c bytes).1.written = (List.range (stream.length / 10 - (r.load c bytes).1.overflowed)).countP
        (fun m => (TariffClass.decode (recordAt stream m)).isSome) ∧
      (r.load c bytes).1.written + (r.load c bytes).1.rejected + (r.load c bytes).1.overflowed = stream.length / 10 := by
  obtain ⟨hend, hover, hwritten, hsum⟩ :=
    TariffLoad.foldl_dispose_counts (l := r.startLoad c.index) (recordsOf stream) hindex
  rw [r.load_eq hheld, ← hstream]
  simp only [startLoad_index, startLoad_written, startLoad_rejected, startLoad_overflowed, recordsOf_length,
    countP_take_recordsOf, Nat.zero_add] at hend hover hwritten hsum ⊢
  exact ⟨hend, hover, hover ▸ hwritten, hsum⟩

/-- Classes before the cursor stay. -/
theorem Recognition.load_classes_of_lt (r : Recognition) {c : Cursor} (hheld : c.bytes.length ≤ 9) (bytes : List Byte)
    {j : ClassId} (h : j.val < c.index) : (r.load c bytes).1.classes[j] = r.classes[j] := by
  rw [r.load_eq hheld]
  exact TariffLoad.foldl_dispose_classes_of_lt (l := r.startLoad c.index) _ h

/-- The class `m` places after the cursor takes record `m` of the stream, if there is one and it is in range. -/
theorem Recognition.load_classes (r : Recognition) {c : Cursor} (hheld : c.bytes.length ≤ 9) (bytes : List Byte)
    {j : ClassId} {m : Nat} (h : c.index + m = j.val) :
    (r.load c bytes).1.classes[j] =
      ((recordsOf (c.bytes ++ bytes))[m]?.bind TariffClass.decode).getD r.classes[j] := by
  rw [r.load_eq hheld]
  exact TariffLoad.foldl_dispose_classes (l := r.startLoad c.index) _ h

/-! ### TARIFF-BEGIN and TARIFF-DATA at the Recognition Unit (R33, R34) -/

theorem classOf_ofNat (c : ClassId) : classOf (.ofNat 8 c.val) = some c := by
  have hval : c.val % 256 = c.val := Nat.mod_eq_of_lt (by omega)
  simp [classOf, hval]

theorem classOf_of_ge {b : Byte} (h : 32 ≤ b.toNat) : classOf b = none := dif_neg (Nat.not_lt.mpr h)

/-- TARIFF-BEGIN is handed on with the cursor closed (R32). -/
theorem exec_tariffBegin {s : State} (h : s.Takes .office .tariffBegin) (cls : Byte) :
    exec (.tariffBegin cls) s = .next (takeTariffBegin cls (s.setReceiver .office .idle).closeCursor) :=
  congrArg Host.Outcome.next (h.requestCompletes_eq rfl (takeTariffBegin cls))

/-- TARIFF-DATA is handed on with the cursor as it stands (R32). -/
theorem exec_tariffData {s : State} (h : s.Takes .office .tariffData) {bytes : List Byte} (hpos : 1 ≤ bytes.length)
    (hmax : bytes.length ≤ 112) :
    exec (.tariffData bytes) s = .next (takeTariffData bytes (s.setReceiver .office .idle)) := by
  have hlength : ReqKind.tariffData.lengthOk bytes.length = true := by
    simp [ReqKind.lengthOk, Config.tariffDataMax, hpos, hmax]
  exact congrArg Host.Outcome.next (h.requestCompletes_eq hlength (takeTariffData bytes))

/-- The Recognition Unit after a frame: its classes, and the cursor open behind the frame (R34, R35). -/
def Recognition.afterLoad (r : Recognition) (l : TariffLoad) (held : List Byte) : Recognition :=
  { r with classes := l.classes, cursor := some { index := l.index, bytes := held } }

/-- TARIFF-DATA with the cursor open loads the frame and acknowledges its counts. -/
theorem takeTariffData_open {s : State} {c : Cursor} (h : s.recog.cursor = some c) (bytes : List Byte) :
    takeTariffData bytes s =
      State.respond { s with recog := s.recog.afterLoad (s.recog.load c bytes).1 (s.recog.load c bytes).2 } .office
        (.tariffAck (s.recog.load c bytes).1.index (s.recog.load c bytes).1.written (s.recog.load c bytes).1.rejected
          (s.recog.load c bytes).1.overflowed (s.recog.load c bytes).2.length) := by
  simp only [takeTariffData, h]
  rfl

theorem takeTariffData_closed {s : State} (h : s.recog.cursor = none) (bytes : List Byte) :
    takeTariffData bytes s = s.respond .office (refusal .tariffData .state) := by
  simp only [takeTariffData, h]
  rfl

/-! ### The statement, case by case -/

/-- TARIFF-BEGIN opens the cursor at its class. -/
theorem tariffBegin_opens {s : State} (h : s.Takes .office .tariffBegin) (c : ClassId) :
    ∃ t : State, exec (.tariffBegin (.ofNat 8 c.val)) s = .next t ∧ s.OnlyAnswers t .office (.tariffAck c.val 0 0 0 0) ∧
      t = { s with ports := t.ports, recog := { s.recog with cursor := some { index := c.val, bytes := [] } } } := by
  refine ⟨_, exec_tariffBegin h _, ?_, ?_⟩ <;> simp only [takeTariffBegin, classOf_ofNat, State.respondOffice]
  · exact State.onlyAnswers_respond _ rfl
  · rfl

/-- TARIFF-BEGIN of a class that does not exist leaves the cursor closed. -/
theorem tariffBegin_refused {s : State} (h : s.Takes .office .tariffBegin) {b : Byte} (hb : 32 ≤ b.toNat) :
    s.OfficeRefuses (.tariffBegin b) .tariffBegin .range := by
  refine ⟨_, exec_tariffBegin h b, ?_, ?_⟩ <;> simp only [takeTariffBegin, classOf_of_ge hb]
  · exact State.onlyAnswers_respond (refusal .tariffBegin .range) rfl
  · rfl

/-- TARIFF-DATA with the cursor closed. -/
theorem tariffData_refused {s : State} (h : s.Takes .office .tariffData) {bytes : List Byte} (hpos : 1 ≤ bytes.length)
    (hmax : bytes.length ≤ 112) (hclosed : s.recog.cursor = none) :
    s.LinkRefuses (.tariffData bytes) .office .tariffData .state := by
  refine ⟨_, exec_tariffData h hpos hmax, ?_, ?_⟩ <;> rw [takeTariffData_closed (by exact hclosed)]
  · exact State.onlyAnswers_respond _ rfl
  · rfl

/-- Settles O45: the frame's bytes behind the held ones are cut into the stream's records (`Recognition.load_eq`), and the
records fall on the classes from the cursor on (`Recognition.load_counts`, `Recognition.load_classes`). -/
theorem tariffLoad : Obligations.TariffLoad := by
  refine fun s => ⟨fun h => ⟨tariffBegin_opens h, fun b => tariffBegin_refused h⟩, fun h bytes hpos hmax =>
    ⟨tariffData_refused h hpos hmax, ?_⟩⟩
  intro cursor hcursor hindex hheld stream n hstream hn
  have hexec := exec_tariffData h hpos hmax
  rw [takeTariffData_open (s := s.setReceiver .office .idle) hcursor bytes, State.setReceiver_recog] at hexec
  obtain ⟨hend, hover, hwritten, hsum⟩ := s.recog.load_counts hindex hheld bytes hstream
  have hleft : (s.recog.load cursor bytes).2 = stream.drop (10 * n) := by
    rw [s.recog.load_eq hheld, ← hstream, hn, leftoverOf]
  have hheldCount : stream.length % 10 = (s.recog.load cursor bytes).2.length := by
    rw [s.recog.load_eq hheld, ← hstream, leftoverOf_length]
  rw [← hn] at hend hover hwritten hsum
  refine ⟨_, _, _, _, hexec, hsum, hover, hwritten, ?records, ?others, ?cursor, ?answer, rfl⟩
  case records =>
    intro j m hm hj
    have hclass := s.recog.load_classes hheld bytes hj
    rwa [← hstream, recordsOf_getElem? (hn ▸ hm)] at hclass
  case others =>
    rintro j (hbefore | hafter)
    · exact s.recog.load_classes_of_lt hheld bytes hbefore
    · have hclass := s.recog.load_classes hheld bytes (j := j) (m := j.val - cursor.index) (by omega)
      rwa [← hstream, recordsOf_getElem?_of_ge (by omega)] at hclass
  case cursor =>
    rw [← hend, ← hleft]
    rfl
  case answer =>
    rw [← hend, hheldCount]
    exact State.onlyAnswers_respond _ rfl

end Sys2Proof.Machine
end

section
/-! A pass of the Merge Arbiter (R70 to R74): which claims have conditions 1 to 3 of R66, which bin the fullest-first rule
chooses (R103), and the three outcomes of R72. -/

namespace Sys2Proof.Machine

/-! ### The fullest-first rule (R103) -/

/-- Bin `b` comes before bin `a` in the rule: the greater sum, the lower chute on ties (R103). -/
def State.Outranks (s : State) (v : Nat) (b a : BinId) : Prop :=
  s.fillWith v a < s.fillWith v b ∨ (s.fillWith v a = s.fillWith v b ∧ b ≤ a)

theorem State.Outranks.refl (s : State) (v : Nat) (b : BinId) : s.Outranks v b b := .inr ⟨rfl, le_rfl⟩

theorem State.Outranks.trans {s : State} {v : Nat} {a b c : BinId} (hcb : s.Outranks v c b) (hba : s.Outranks v b a) :
    s.Outranks v c a := by
  rcases hcb with hlt | ⟨heq, hle⟩
  · exact .inl (hba.elim (fun h => h.trans hlt) fun h => h.1.trans_lt hlt)
  · exact hba.imp (fun h => h.trans_eq heq) fun h => ⟨h.1.trans heq, hle.trans h.2⟩

/-- A comparison with a bin on a higher chute keeps one of the two, and that one outranks both. -/
theorem State.fuller_some (s : State) (v : Nat) {a c : BinId} (hac : a < c) :
    ∃ b, s.fuller v (some a) c = some b ∧ (b = a ∨ b = c) ∧ s.Outranks v b a ∧ s.Outranks v b c := by
  by_cases h : s.fillWith v a < s.fillWith v c
  · exact ⟨c, if_pos h, .inr rfl, .inl h, .refl s v c⟩
  · have hca : s.fillWith v c ≤ s.fillWith v a := Nat.le_of_not_lt h
    exact ⟨a, if_neg h, .inl rfl, .refl s v a, hca.lt_or_eq.imp_right fun heq => ⟨heq, hac.le⟩⟩

/-- Along bins in chute order the comparisons end at a bin of the list that outranks all of them. -/
theorem State.foldl_fuller_some (s : State) (v : Nat) (l : List BinId) (a : BinId) (hl : (a :: l).Pairwise (· < ·)) :
    ∃ b ∈ a :: l, l.foldl (s.fuller v) (some a) = some b ∧ ∀ x ∈ a :: l, s.Outranks v b x := by
  induction l generalizing a with
  | nil => exact ⟨a, by simp, rfl, by simpa using State.Outranks.refl s v a⟩
  | cons c l ih =>
    obtain ⟨hahead, hcl⟩ := List.pairwise_cons.mp hl
    have hac : a < c := hahead c List.mem_cons_self
    obtain ⟨d, hd, hmem, hda, hdc⟩ := s.fuller_some v hac
    have hdl : (d :: l).Pairwise (· < ·) := by
      rcases hmem with rfl | rfl
      · exact .cons (fun x hx => hahead x (List.mem_cons_of_mem c hx)) hcl.of_cons
      · exact hcl
    obtain ⟨b, hb, hfold, hbest⟩ := ih d hdl
    have hbd : s.Outranks v b d := hbest d List.mem_cons_self
    refine ⟨b, ?_, by rw [List.foldl_cons, hd, hfold], ?_⟩
    · rcases List.mem_cons.mp hb with rfl | hbl
      · rcases hmem with rfl | rfl <;> simp
      · simp [hbl]
    · intro x hx
      rcases List.mem_cons.mp hx with rfl | hx
      · exact hbd.trans hda
      rcases List.mem_cons.mp hx with rfl | hx
      · exact hbd.trans hdc
      · exact hbest x (List.mem_cons_of_mem d hx)

theorem Bin.serves_iff {r : Bin} {material : Nat} :
    r.serves material = true ↔ r.state = .serving ∧ r.material = material := by
  simp [Bin.serves]

theorem Bin.fits_iff {r : Bin} {v : Nat} :
    r.fits v = true ↔ r.confirmed + r.reserved + (v * r.ratio + 15) / 16 ≤ r.capacity := decide_eq_true_iff

/-- The fitting bins are those of the material that are SERVING and have room (R69, R102). -/
theorem State.mem_fittingBins {s : State} {material v : Nat} {b : BinId} :
    b ∈ s.fittingBins material v ↔ s.HasRoom material v b := by
  have hall : b ∈ binIds := by decide +revert
  simp [State.fittingBins, State.HasRoom, hall, Bin.serves_iff, Bin.fits_iff, and_assoc]

/-- The fitting bins stand in chute order (R103). -/
theorem State.fittingBins_pairwise_lt (s : State) (material v : Nat) :
    (s.fittingBins material v).Pairwise (· < ·) :=
  List.Pairwise.filter _ (by decide)

/-- Where some bin has room, the fullest one is chosen (R103). -/
theorem State.chooseBin_of_hasRoom {s : State} {material v : Nat} (h : ∃ b, s.HasRoom material v b) :
    ∃ b, s.Fullest material v b ∧ s.chooseBin material v = some b := by
  obtain ⟨b₀, hb₀⟩ := h
  obtain ⟨a, l, hl⟩ := List.exists_cons_of_ne_nil (List.ne_nil_of_mem (State.mem_fittingBins.mpr hb₀))
  obtain ⟨b, hb, hfold, hbest⟩ := s.foldl_fuller_some v l a (hl ▸ s.fittingBins_pairwise_lt material v)
  rw [← hl] at hb hbest
  refine ⟨b, ⟨State.mem_fittingBins.mp hb, fun x hx => hbest x (State.mem_fittingBins.mpr hx)⟩, ?_⟩
  rw [State.chooseBin, hl]
  exact hfold

/-- Where no bin has room, none is chosen. -/
theorem State.chooseBin_eq_none {s : State} {material v : Nat} (h : ∀ b, ¬ s.HasRoom material v b) :
    s.chooseBin material v = none := by
  have hnil : s.fittingBins material v = [] :=
    List.eq_nil_iff_forall_not_mem.mpr fun b hb => h b (State.mem_fittingBins.mp hb)
  rw [State.chooseBin, hnil, List.foldl_nil]

/-! ### The conditions of a merge (R66) -/

/-- The Merge Arbiter's test is conditions 1 to 3 of R66. -/
theorem State.mayMerge_iff {s : State} {c : Claim} : s.mayMerge c = true ↔ s.GapClear c := by
  have hclear : s.clearOfQueue (s.candidateDue c.lane s.belt.count) = true ↔ ∀ r ∈ s.transit, s.corner.gap ≤
      (signedDistance r.due (s.candidateDue c.lane s.belt.count)).natAbs := by
    simp [State.clearOfQueue, clearOf]
  simp only [State.mayMerge, Bool.and_eq_true, Bool.not_eq_true', decide_eq_true_eq, hclear, and_assoc]
  rfl

/-- Condition 4 fails where the lane does not accept the material or no bin has room. -/
theorem State.binFor_eq_none {s : State} {c : Claim}
    (h : s.plans.active.lanes[c.lane].materials.getLsbD c.material = false ∨ ∀ b, ¬ s.HasRoom c.material c.volume b) :
    s.binFor c = none := by
  rcases h with hclosed | hfull
  · exact if_neg (ne_true_of_eq_false hclosed)
  · rw [State.binFor, State.chooseBin_eq_none hfull, ite_self]

/-! ### The three outcomes (R72) -/

theorem State.decideClaim_of_not_gapClear {s : State} {c : Claim} (h : ¬ s.GapClear c) : s.decideClaim c = s :=
  if_neg (mt State.mayMerge_iff.mp h)

theorem State.decideClaim_of_binFor_some {s : State} {c : Claim} {b : BinId} (h : s.GapClear c)
    (hb : s.binFor c = some b) : s.decideClaim c = s.grant c b := by
  rw [State.decideClaim, if_pos (State.mayMerge_iff.mpr h), hb]

theorem State.decideClaim_of_binFor_none {s : State} {c : Claim} (h : s.GapClear c) (hb : s.binFor c = none) :
    s.decideClaim c = s.refuseClaim c.lane .materialFull := by
  rw [State.decideClaim, if_pos (State.mayMerge_iff.mpr h), hb]

/-- A response to the request in flight, formed by an event that is no frame of its link (R157, R159). -/
theorem LinkPort.answeredByEvent_enqueue (p : LinkPort) (f : List Byte) :
    p.AnsweredByEvent { p.enqueue f with inFlight := none } f p.notices :=
  ⟨p.enqueue_receiver f, rfl, rfl, p.enqueue_outQueue f, p.enqueue_notices f, p.enqueue_power f,
    p.enqueue_busy f, p.enqueue_idle f, p.enqueue_status f⟩

/-- A claim that is refused leaves the set, and its CONTAINER is answered (R43). -/
theorem State.refuseClaim_answers (s : State) (k : LaneId) (reason : Reason) :
    (s.port (.lane k)).AnsweredByEvent ((s.refuseClaim k reason).port (.lane k)) (refusal .container reason).frame
      (s.port (.lane k)).notices := by
  rw [State.refuseClaim_port_self]
  exact LinkPort.answeredByEvent_enqueue _ _

/-- Settles O35: the outcomes of R72 by conditions 1 to 3 (`State.mayMerge_iff`) and condition 4, whose bin is the fullest
(`State.chooseBin_of_hasRoom`); a pass is the fold of the decisions over the set. -/
theorem passDecidesClaim : Obligations.PassDecidesClaim := by
  refine fun s c => ⟨?granted, ?refused, State.decideClaim_of_not_gapClear, s.mergePass_nil, ?order⟩
  case granted =>
    intro hclear haccepts hroom
    obtain ⟨b, hfullest, hchosen⟩ := State.chooseBin_of_hasRoom hroom
    exact ⟨b, hfullest, State.decideClaim_of_binFor_some hclear ((if_pos haccepts).trans hchosen)⟩
  case refused =>
    intro hclear hfails
    rw [State.decideClaim_of_binFor_none hclear (State.binFor_eq_none hfails)]
    exact ⟨by simp only [State.refuseClaim_merge, ne_eq, decide_not, beq_eq_decide],
      s.refuseClaim_answers c.lane .materialFull, fun l hl => s.refuseClaim_port_ne .materialFull hl, rfl⟩
  case order =>
    intro rest hclaims
    rw [State.mergePass, hclaims, List.foldl_cons]

end Sys2Proof.Machine
end

section
/-! Arrivals at the gate with no record to match (Chapter 5): what a stray changes (R88), and the leading edges that are
decided as strays (R82). -/

namespace Sys2Proof.Machine

/-! ### A stray (R88) -/

/-- Forming held again reaches only the Merge Arbiter and the notices (R56, R63). -/
theorem State.reformHeld_frame (s : State) :
    s.reformHeld = { s with ports := s.reformHeld.ports, merge := s.reformHeld.merge } := by
  unfold State.reformHeld
  split <;> rfl

/-- The reject-chute count rises, saturating, and at-limit is evaluated on the new count (R92, R112). -/
@[simp] theorem State.countReject_reject (s : State) :
    s.countReject.reject =
      { count := min (s.reject.count + 1) Config.rejectMax
        atLimit := decide (s.corner.rejectLimit ≤ min (s.reject.count + 1) Config.rejectMax) } := by
  rw [State.countReject, State.reformHeld_reject]
  rfl

/-- Held is formed again from its causes once at-limit was evaluated (R63). -/
theorem State.countReject_merge (s : State) :
    s.countReject.merge = { s.merge with held := s.countReject.heldCauses } := by
  rw [State.countReject, State.reformHeld_merge, State.reformHeld_heldCauses]
  rfl

/-- A lane link after a change of the reject-chute count has its STATE notice set exactly where held changed (R56). -/
theorem State.countReject_noticed (s : State) (k : LaneId) :
    s.countReject.port (.lane k) =
      (s.port (.lane k)).noticed (s.countReject.merge.held != s.merge.held) :=
  State.reformHeld_noticed _ k

theorem State.countReject_frame (s : State) :
    s.countReject =
      { s with ports := s.countReject.ports, merge := s.countReject.merge, reject := s.countReject.reject } := by
  rw [State.countReject_reject]
  exact State.reformHeld_frame _

@[simp] theorem State.stray_chute (s : State) : s.stray.chute = 0 := by simp [State.stray]

@[simp] theorem State.stray_reject (s : State) :
    s.stray.reject =
      { count := min (s.reject.count + 1) Config.rejectMax
        atLimit := decide (s.corner.rejectLimit ≤ min (s.reject.count + 1) Config.rejectMax) } := by
  simp [State.stray]

/-- The stray-items total rises, saturating (R93, R131). -/
@[simp] theorem State.stray_table (s : State) :
    s.stray.table = { s.table with totals := { s.table.totals with strays := satAdd s.table.totals.strays 1 } } := by
  simp [State.stray]

theorem State.stray_merge (s : State) : s.stray.merge = { s.merge with held := s.stray.heldCauses } :=
  State.countReject_merge { s with chute := 0 }

theorem State.stray_noticed (s : State) (k : LaneId) :
    s.stray.port (.lane k) = (s.port (.lane k)).noticed (s.stray.merge.held != s.merge.held) := by
  simpa [State.stray] using State.countReject_noticed { s with chute := 0 } k

@[simp] theorem State.stray_port_checkout (s : State) : s.stray.port .checkout = s.port .checkout := by
  simp [State.stray]

/-- The office link gets the REJECT notice (R94). -/
@[simp] theorem State.stray_port_office (s : State) :
    s.stray.port .office =
      { s.port .office with notices := { (s.port .office).notices with reject := true } } := by
  simp [State.stray, Notices.set]

theorem State.stray_frame (s : State) :
    s.stray = { s with
      ports := s.stray.ports, chute := 0, merge := s.stray.merge, reject := s.stray.reject, table := s.stray.table } :=
  -- Over the frame of the reject-chute count, the total and the notice write the table and the office link.
  congrArg (fun u : State => { u with ports := s.stray.ports, table := s.stray.table })
    (State.countReject_frame { s with chute := 0 })

/-- A stray has the whole effect of R88 in every state, and no other. -/
theorem State.stray_taken (s : State) : s.StrayTaken s.stray :=
  ⟨s.stray_chute, congrArg RejectChute.count s.stray_reject, congrArg RejectChute.atLimit s.stray_reject, s.stray_table,
    s.stray_merge, s.stray_noticed, s.stray_port_checkout, s.stray_port_office, s.stray_frame⟩

/-! ### The leading edges that are strays (R82) -/

/-- A leading edge on its own, while the part runs and the eye is clear, is Belt Control's edge and the decision at the
current count (R9, R10). -/
theorem exec_leadingEdge_none {s : State} (hup : s.isUp = true) (heye : s.belt.eyeBlocked = false) :
    exec (.leadingEdge none) s = .next (s.atEdge.decideEdge s.belt.count) := by
  have hedge : s.leadingEdge none = s.takeEdge := by simp [State.leadingEdge, heye]
  calc exec (.leadingEdge none) s
      = .next (s.whenUp fun s => s.leadingEdge none) := rfl
    _ = .next (s.leadingEdge none) := congrArg Host.Outcome.next (if_pos hup)
    _ = .next s.takeEdge := congrArg Host.Outcome.next hedge
    _ = .next (s.atEdge.decideEdge s.belt.count) := rfl

/-- With no record on the belt, and with the head's window not yet open, an edge is a stray (R82). -/
theorem State.decideEdge_of_early {s : State} {e : Count}
    (hearly : ∀ r rest, s.transit = r :: rest → signedDistance r.due e < -(s.corner.tolerance : Int)) :
    s.decideEdge e = s.stray := by
  rw [State.decideEdge]
  cases hhead : s.transit with
  | nil => rfl
  | cons r rest =>
    have hpos : windowPosition s.corner.tolerance r.due e = .early :=
      (windowPosition_early _ _ _).mpr (hearly r rest hhead)
    simp only [hpos]

/-- Settles O10: such an edge is decided as a stray (`State.decideEdge_of_early`), and a stray has exactly the effect of R88
(`State.stray_taken`); the decision makes no pass. -/
theorem strayEdge : Obligations.StrayEdge := by
  intro s hup heye hearly
  refine ⟨s.atEdge.stray, ?_, s.atEdge.stray_taken⟩
  rw [exec_leadingEdge_none hup heye, State.decideEdge_of_early (s := s.atEdge) hearly]

end Sys2Proof.Machine
end

section
/-! The Voucher Table and its requests (Chapter 7): the voucher codes and their check digit (R121), the tests that a presented
code passes (R122), the checkout requests (R123 to R125), and VOUCHER-VOID and PERIOD-CLOSE (R130, R133). -/

namespace Sys2Proof.Machine

/-! ### The check digit (R121) -/

theorem checkDigit_le (digits : List Nat) : checkDigit digits ≤ 9 := by
  unfold checkDigit
  omega

/-- The check digit tells of the weighted sum its last digit, and nothing more. -/
theorem checkDigit_eq_iff {a b : List Nat} : checkDigit a = checkDigit b ↔ weightedSum a % 10 = weightedSum b % 10 := by
  unfold checkDigit
  omega

/-- The weighted sum, from the leftmost of the seven digits on. -/
theorem weightedSum_seven (a b c d e f g : Nat) :
    weightedSum [a, b, c, d, e, f, g] = 3 * a + b + 3 * c + d + 3 * e + f + 3 * g := by
  simp [weightedSum]
  omega

/-- The weight of the digit at place `p`, counted from the leftmost of seven. -/
def digitWeight (p : Nat) : Nat := if p % 2 = 0 then 3 else 1

/-- Replacing one digit replaces its product in the weighted sum. -/
theorem weightedSum_set {digits : List Nat} (hlen : digits.length = 7) {p x : Nat} (hx : digits[p]? = some x) (d : Nat) :
    weightedSum (digits.set p d) + digitWeight p * x = weightedSum digits + digitWeight p * d := by
  obtain ⟨hp, -⟩ := List.getElem?_eq_some_iff.mp hx
  rw [hlen] at hp
  match digits, hlen with
  | [_, _, _, _, _, _, _], _ =>
    interval_cases p <;> simp [weightedSum_seven, digitWeight] at hx ⊢ <;> omega

/-- Both weights have an inverse modulo 10, so a changed digit shows. -/
theorem checkDigit_set_ne {digits : List Nat} (hlen : digits.length = 7) {p x d : Nat} (hx : digits[p]? = some x)
    (hx9 : x ≤ 9) (hd9 : d ≤ 9) (hne : x ≠ d) : checkDigit (digits.set p d) ≠ checkDigit digits := by
  have hsum := weightedSum_set hlen hx d
  rw [ne_eq, checkDigit_eq_iff]
  unfold digitWeight at hsum
  split at hsum <;> omega

/-- The weights of neighbours differ by 2, so a swap moves the weighted sum by twice the digits' difference. -/
theorem checkDigit_swap_eq_iff {digits : List Nat} (hlen : digits.length = 7) {p x y : Nat} (hx : digits[p]? = some x)
    (hy : digits[p + 1]? = some y) (hx9 : x ≤ 9) (hy9 : y ≤ 9) :
    checkDigit ((digits.set p y).set (p + 1) x) = checkDigit digits ↔ x = y ∨ x + 5 = y ∨ y + 5 = x := by
  have hy' : (digits.set p y)[p + 1]? = some y := by simpa using hy
  have hleft := weightedSum_set hlen hx y
  have hright := weightedSum_set (by simpa using hlen) hy' x
  rw [checkDigit_eq_iff]
  unfold digitWeight at hleft hright
  split at hleft <;> split at hright <;> omega

/-! ### Voucher codes (R121) -/

theorem codeNumber_lt (i : SlotId) (n : Serial) : codeNumber i n < 8388608 := by
  unfold codeNumber
  omega

theorem codeNumber_div (i : SlotId) (n : Serial) : codeNumber i n / 65536 = i.val := by
  unfold codeNumber
  omega

theorem codeNumber_mod (i : SlotId) (n : Serial) : codeNumber i n % 65536 = n.toNat := by
  unfold codeNumber
  omega

/-- Slot and serial are read off N. -/
theorem codeNumber_injective {i j : SlotId} {m n : Serial} (h : codeNumber i m = codeNumber j n) : i = j ∧ m = n := by
  constructor
  · rw [Fin.ext_iff, ← codeNumber_div i m, h, codeNumber_div]
  · rw [← BitVec.toNat_inj, ← codeNumber_mod i m, h, codeNumber_mod]

theorem digitsNumber_codeNumber (i : SlotId) (n : Serial) : digitsNumber (codeDigits (codeNumber i n)) = codeNumber i n :=
  digitsNumber_codeDigits _ (by have := codeNumber_lt i n; omega)

@[simp] theorem voucherCode_length (i : SlotId) (n : Serial) : (voucherCode i n).length = 8 := rfl

/-- The bytes of a voucher code, read as digits. -/
theorem voucherCode_toNat (i : SlotId) (n : Serial) :
    (voucherCode i n).map BitVec.toNat = codeDigits (codeNumber i n) ++ [checkDigit (codeDigits (codeNumber i n))] := by
  unfold voucherCode
  rw [List.map_map]
  refine (List.map_congr_left fun d hd => ?_).trans (List.map_id _)
  have hd9 : d ≤ 9 := by
    rcases List.mem_append.mp hd with hd | hd
    · exact codeDigits_le _ d hd
    · exact List.mem_singleton.mp hd ▸ checkDigit_le _
  simp only [Function.comp, BitVec.toNat_ofNat, id]
  omega

theorem voucherCode_injective {i j : SlotId} {m n : Serial} (h : voucherCode i m = voucherCode j n) : i = j ∧ m = n := by
  have hdigits := congrArg (List.map BitVec.toNat) h
  rw [voucherCode_toNat, voucherCode_toNat] at hdigits
  have hnumber := congrArg digitsNumber (List.append_inj_left hdigits (by simp))
  rw [digitsNumber_codeNumber, digitsNumber_codeNumber] at hnumber
  exact codeNumber_injective hnumber

/-- Settles O41: a code spells N and its check digit (`digitsNumber_codeNumber`), so it gives back slot and serial
(`voucherCode_injective`); what a change or a swap of digits does to the weighted sum decides whether the check digit shows
it (`checkDigit_set_ne`, `checkDigit_swap_eq_iff`). -/
theorem voucherCodesCheck : Obligations.VoucherCodesCheck := by
  refine ⟨?formula, ?spells, fun _ _ _ _ => voucherCode_injective, ?change, ?swap⟩
  case formula =>
    intro a b c d e f g
    rw [checkDigit, weightedSum_seven]
    omega
  case spells =>
    exact fun i n => ⟨codeDigits (codeNumber i n), codeDigits_length _, codeDigits_le _, digitsNumber_codeNumber i n, rfl,
      checkDigit_le _⟩
  case change =>
    intro digits p d hlen hdigits hp hd hne
    have hx : digits[p]? = some digits[p] := List.getElem?_eq_getElem _
    exact checkDigit_set_ne hlen hx (hdigits _ (List.getElem_mem _)) hd fun h => hne (h ▸ hx)
  case swap =>
    intro digits p x y hlen hdigits hx hy
    exact checkDigit_swap_eq_iff hlen hx hy (hdigits x (List.mem_of_getElem? hx)) (hdigits y (List.mem_of_getElem? hy))

/-! ### The tests of a presented code (R122) -/

/-- A voucher's own code passes the tests on the checkout, the digits and the check digit. -/
theorem VoucherTable.validate_voucherCode (t : VoucherTable) {c : Byte} (hc : 1 ≤ c.toNat ∧ c.toNat ≤ 15) (i : SlotId)
    (n : Serial) : t.validate c (voucherCode i n) = t.find c.toNat (codeNumber i n) := by
  have hall : ((voucherCode i n).map BitVec.toNat).all (· ≤ 9) = true := by
    rw [voucherCode_toNat]
    simpa [or_imp, forall_and, checkDigit_le] using codeDigits_le (codeNumber i n)
  have htake : ((voucherCode i n).map BitVec.toNat).take 7 = codeDigits (codeNumber i n) := by
    rw [voucherCode_toNat]
    exact List.take_left' (codeDigits_length _)
  have hdrop : ((voucherCode i n).map BitVec.toNat).drop 7 = [checkDigit (codeDigits (codeNumber i n))] := by
    rw [voucherCode_toNat]
    exact List.drop_left' (codeDigits_length _)
  unfold VoucherTable.validate
  simp [hc, hall, htake, hdrop, digitsNumber_codeNumber]

/-- The code of an ISSUED voucher passes the six tests. -/
theorem VoucherTable.validate_issued {t : VoucherTable} {c : Byte} (hc : 1 ≤ c.toNat ∧ c.toNat ≤ 15) {i : SlotId}
    {v : Voucher} (h : t.slot i = .issued v) :
    t.validate c (voucherCode i v.serial) =
      .ok { checkout := c.toNat, slot := i, voucher := v, claimant := none } := by
  rw [t.validate_voucherCode hc]
  simp [VoucherTable.find, codeNumber_div, codeNumber_mod, h]

/-- The code of a CLAIMED voucher passes the six tests, whoever claimed it. -/
theorem VoucherTable.validate_claimed {t : VoucherTable} {c : Byte} (hc : 1 ≤ c.toNat ∧ c.toNat ≤ 15) {i : SlotId}
    {v : Voucher} {d e : Nat} (h : t.slot i = .claimed v d e) :
    t.validate c (voucherCode i v.serial) =
      .ok { checkout := c.toNat, slot := i, voucher := v, claimant := some d } := by
  rw [t.validate_voucherCode hc]
  simp [VoucherTable.find, codeNumber_div, codeNumber_mod, h]

/-! ### Vouchers that leave the table -/

@[simp] theorem State.setTable_table (s : State) (t : VoucherTable) : (s.setTable t).table = t := rfl

@[simp] theorem VoucherTable.slot_redeem (t : VoucherTable) (i j : SlotId) (v : Voucher) :
    (t.redeem i v).slot j = (t.setSlot i .free).slot j := rfl

@[simp] theorem VoucherTable.slot_void (t : VoucherTable) (i j : SlotId) (v : Voucher) :
    (t.void i v).slot j = (t.setSlot i .free).slot j := rfl

/-! ### A request whose response is its only trace on the links -/

/-- A command that ends in the response `r` on link `l`, formed in `u`: beyond the ports its whole effect is that of `u`. -/
theorem State.exec_respond {s u : State} {cmd : Instr} {l : Link} {r : Response}
    (hexec : exec cmd s = .next (u.respond l r)) (hports : u.ports = (s.setReceiver l .idle).ports) :
    ∃ t : State, exec cmd s = .next t ∧ s.OnlyAnswers t l r ∧ t = { u with ports := t.ports } :=
  ⟨_, hexec, State.onlyAnswers_respond r hports, rfl⟩

theorem State.linkRefuses_of_exec {s : State} {cmd : Instr} {l : Link} {k : ReqKind} {reason : Reason}
    (hexec : exec cmd s = .next ((s.setReceiver l .idle).respond l (refusal k reason))) : s.LinkRefuses cmd l k reason :=
  State.exec_respond (u := s.setReceiver l .idle) hexec rfl

/-- The whole effect of a checkout request that writes one voucher slot and is answered. -/
theorem State.exec_setSlot {s : State} {cmd : Instr} {i : SlotId} {x : VoucherSlot} {r : Response}
    (hexec : exec cmd s =
      .next (((s.setReceiver .checkout .idle).setTable (s.table.setSlot i x)).respond .checkout r)) :
    ∃ t : State, exec cmd s = .next t ∧ t.table.slot i = x ∧ (∀ j, j ≠ i → t.table.slot j = s.table.slot j) ∧
      s.OnlyAnswers t .checkout r ∧ t = { s with ports := t.ports, table := { s.table with slots := t.table.slots } } := by
  obtain ⟨t, hnext, hanswer, hframe⟩ := State.exec_respond hexec rfl
  have htable : t.table = s.table.setSlot i x := congrArg State.table hframe
  refine ⟨t, hnext, by simp [htable], fun j hj => by simp [htable, hj], hanswer, ?_⟩
  rw [htable]
  exact hframe

/-! ### CLAIM, REDEEM and UNCLAIM (R123 to R125)

For each request its equation on an ISSUED and on a CLAIMED voucher. -/

section
variable {s : State} {c : Byte} {i : SlotId} {v : Voucher} {d e : Nat}

theorem exec_claim_issued (htakes : s.Takes .checkout .claim) (hc : 1 ≤ c.toNat ∧ c.toNat ≤ 15)
    (h : s.table.slot i = .issued v) :
    exec (.claim c (voucherCode i v.serial)) s =
      .next (((s.setReceiver .checkout .idle).setTable (s.table.setSlot i (.claimed v c.toNat 0))).respond .checkout
        (.claimed c i v)) := by
  refine congrArg Host.Outcome.next ((htakes.requestCompletes_eq rfl _).trans ?_)
  simp [takeClaim, closesCursor, VoucherTable.validate_issued hc h]

theorem exec_claim_claimed (htakes : s.Takes .checkout .claim) (hc : 1 ≤ c.toNat ∧ c.toNat ≤ 15)
    (h : s.table.slot i = .claimed v d e) :
    exec (.claim c (voucherCode i v.serial)) s =
      .next (if d = c.toNat then
          ((s.setReceiver .checkout .idle).setTable (s.table.setSlot i (.claimed v c.toNat 0))).respond .checkout
            (.claimed c i v)
        else (s.setReceiver .checkout .idle).respond .checkout (refusal .claim .claimedElsewhere)) := by
  refine congrArg Host.Outcome.next ((htakes.requestCompletes_eq rfl _).trans ?_)
  simp [takeClaim, closesCursor, VoucherTable.validate_claimed hc h, State.refuse, refusal]

theorem exec_redeem_issued (htakes : s.Takes .checkout .redeem) (hc : 1 ≤ c.toNat ∧ c.toNat ≤ 15)
    (h : s.table.slot i = .issued v) :
    exec (.redeem c (voucherCode i v.serial)) s =
      .next ((s.setReceiver .checkout .idle).respond .checkout (refusal .redeem .notClaimed)) := by
  refine congrArg Host.Outcome.next ((htakes.requestCompletes_eq rfl _).trans ?_)
  simp [takeRedeem, closesCursor, VoucherTable.validate_issued hc h, State.refuse, refusal]

theorem exec_redeem_claimed (htakes : s.Takes .checkout .redeem) (hc : 1 ≤ c.toNat ∧ c.toNat ≤ 15)
    (h : s.table.slot i = .claimed v d e) :
    exec (.redeem c (voucherCode i v.serial)) s =
      .next (if d = c.toNat then
          ((s.setReceiver .checkout .idle).setTable (s.table.redeem i v)).respond .checkout
            (.redeemed c i v.serial v.amount)
        else (s.setReceiver .checkout .idle).respond .checkout (refusal .redeem .claimedElsewhere)) := by
  refine congrArg Host.Outcome.next ((htakes.requestCompletes_eq rfl _).trans ?_)
  simp [takeRedeem, closesCursor, VoucherTable.validate_claimed hc h, State.refuse, refusal]

theorem exec_unclaim_issued (htakes : s.Takes .checkout .unclaim) (hc : 1 ≤ c.toNat ∧ c.toNat ≤ 15)
    (h : s.table.slot i = .issued v) :
    exec (.unclaim c (voucherCode i v.serial)) s =
      .next ((s.setReceiver .checkout .idle).respond .checkout (refusal .unclaim .notClaimed)) := by
  refine congrArg Host.Outcome.next ((htakes.requestCompletes_eq rfl _).trans ?_)
  simp [takeUnclaim, closesCursor, VoucherTable.validate_issued hc h, State.refuse, refusal]

theorem exec_unclaim_claimed (htakes : s.Takes .checkout .unclaim) (hc : 1 ≤ c.toNat ∧ c.toNat ≤ 15)
    (h : s.table.slot i = .claimed v d e) :
    exec (.unclaim c (voucherCode i v.serial)) s =
      .next (if d = c.toNat then
          ((s.setReceiver .checkout .idle).setTable (s.table.setSlot i (.issued v))).respond .checkout
            (.unclaimed c i v.serial)
        else (s.setReceiver .checkout .idle).respond .checkout (refusal .unclaim .claimedElsewhere)) := by
  refine congrArg Host.Outcome.next ((htakes.requestCompletes_eq rfl _).trans ?_)
  simp [takeUnclaim, closesCursor, VoucherTable.validate_claimed hc h, State.refuse, refusal]

end

/-- Settles O38: an ISSUED voucher and the claimant's own have their slot written, another claimant's is refused
(`exec_claim_issued`, `exec_claim_claimed`). -/
theorem claimVoucher : Obligations.ClaimVoucher := by
  intro s c i v htakes hlow hhigh
  have hc := And.intro hlow hhigh
  refine ⟨?claimable, ?elsewhere⟩
  case claimable =>
    rintro (hissued | ⟨e, hclaimed⟩)
    · exact State.exec_setSlot (exec_claim_issued htakes hc hissued)
    · exact State.exec_setSlot ((exec_claim_claimed htakes hc hclaimed).trans (congrArg _ (if_pos rfl)))
  case elsewhere =>
    intro d e hclaimed hne
    exact State.linkRefuses_of_exec ((exec_claim_claimed htakes hc hclaimed).trans (congrArg _ (if_neg hne)))

/-- Settles O39: of a CLAIMED voucher both requests ask who claimed it, and an ISSUED one they refuse (the equations of
REDEEM and UNCLAIM above). -/
theorem redeemAndUnclaim : Obligations.RedeemAndUnclaim := by
  intro s c i v hredeem hunclaim hlow hhigh
  have hc := And.intro hlow hhigh
  refine ⟨fun e hclaimed => ⟨?redeem, ?unclaim⟩, ?elsewhere, ?issued⟩
  case redeem =>
    obtain ⟨t, hnext, hanswer, hframe⟩ :=
      State.exec_respond ((exec_redeem_claimed hredeem hc hclaimed).trans (congrArg _ (if_pos rfl))) rfl
    have htable : t.table = s.table.redeem i v := congrArg State.table hframe
    refine ⟨t, hnext, by simp [htable], fun j hj => by simp [htable, hj], hanswer, ?_⟩
    rw [htable]
    exact hframe
  case unclaim =>
    exact State.exec_setSlot ((exec_unclaim_claimed hunclaim hc hclaimed).trans (congrArg _ (if_pos rfl)))
  case elsewhere =>
    intro d e hclaimed hne
    exact ⟨State.linkRefuses_of_exec ((exec_redeem_claimed hredeem hc hclaimed).trans (congrArg _ (if_neg hne))),
      State.linkRefuses_of_exec ((exec_unclaim_claimed hunclaim hc hclaimed).trans (congrArg _ (if_neg hne)))⟩
  case issued =>
    intro hissued
    exact ⟨State.linkRefuses_of_exec (exec_redeem_issued hredeem hc hissued),
      State.linkRefuses_of_exec (exec_unclaim_issued hunclaim hc hissued)⟩

/-! ### VOUCHER-VOID and PERIOD-CLOSE (R130, R133) -/

theorem slotOf_ofNat (i : SlotId) : slotOf (.ofNat 8 i.val) = some i := by
  have hval : i.val % 256 = i.val := Nat.mod_eq_of_lt (by omega)
  simp [slotOf, hval]

theorem slotOf_of_ge {b : Byte} (h : 128 ≤ b.toNat) : slotOf b = none := dif_neg (Nat.not_lt.mpr h)

/-- In NORMAL a link with room in its queue and nothing in flight takes every request. -/
theorem State.takes_of_idle {s : State} {l : Link} (hup : s.isUp = true) (hqueue : (s.port l).outQueue.length < 3)
    (hflight : (s.port l).inFlight = none) (hsupply : s.supply.state = .normal) (k : ReqKind) : s.Takes l k :=
  ⟨hup, hqueue, by simp [LinkPort.passesBusy, hflight], by simp [State.inHoldUp, hsupply]⟩

/-- VOUCHER-VOID is handed on with the cursor closed (R32). -/
theorem exec_voucherVoid {s : State} (h : s.Takes .office .voucherVoid) (b : Byte) (n : Serial) :
    exec (.voucherVoid b n) s = .next (takeVoucherVoid b n (s.setReceiver .office .idle).closeCursor) :=
  congrArg Host.Outcome.next (h.requestCompletes_eq rfl (takeVoucherVoid b n))

/-- PERIOD-CLOSE is handed on with the cursor closed (R32). -/
theorem exec_periodClose {s : State} (h : s.Takes .office .periodClose) :
    exec .periodClose s = .next (takePeriodClose (s.setReceiver .office .idle).closeCursor) :=
  congrArg Host.Outcome.next (h.requestCompletes_eq rfl takePeriodClose)

section
variable {u : State} {i : SlotId} {v : Voucher} {n : Serial}

theorem takeVoucherVoid_issued (h : u.table.slot i = .issued v) :
    takeVoucherVoid (.ofNat 8 i.val) v.serial u =
      (u.setTable (u.table.void i v)).respond .office (.voided i v.serial v.amount) := by
  simp [takeVoucherVoid, slotOf_ofNat, h, State.respondOffice]

theorem takeVoucherVoid_claimed {c e : Nat} (h : u.table.slot i = .claimed v c e) :
    takeVoucherVoid (.ofNat 8 i.val) v.serial u = u.respond .office (refusal .voucherVoid .state) := by
  simp [takeVoucherVoid, slotOf_ofNat, h, State.refuseOffice, State.refuse, refusal]

/-- No voucher with that serial stands in the slot. -/
theorem takeVoucherVoid_noVoucher (h : u.table.slot i = .free ∨
      (∃ v : Voucher, u.table.slot i = .issued v ∧ v.serial ≠ n) ∨ ∃ v c e, u.table.slot i = .claimed v c e ∧ v.serial ≠ n) :
    takeVoucherVoid (.ofNat 8 i.val) n u = u.respond .office (refusal .voucherVoid .noVoucher) := by
  rcases h with hslot | ⟨v, hslot, hserial⟩ | ⟨v, c, e, hslot, hserial⟩
  · simp [takeVoucherVoid, slotOf_ofNat, hslot, State.refuseOffice, State.refuse, refusal]
  · simp [takeVoucherVoid, slotOf_ofNat, hslot, hserial, State.refuseOffice, State.refuse, refusal]
  · simp [takeVoucherVoid, slotOf_ofNat, hslot, hserial, State.refuseOffice, State.refuse, refusal]

theorem takeVoucherVoid_range {b : Byte} (hb : 128 ≤ b.toNat) :
    takeVoucherVoid b n u = u.respond .office (refusal .voucherVoid .range) := by
  simp [takeVoucherVoid, slotOf_of_ge hb, State.refuseOffice, State.refuse, refusal]

end

/-- Settles O47: the rows of VOUCHER-VOID, case by case of the slot (the equations of `takeVoucherVoid` above), and
PERIOD-CLOSE, whose response is formed from the values before it sets the totals to 0. -/
theorem voidAndPeriodClose : Obligations.VoidAndPeriodClose := by
  intro s hup hqueue hflight hsupply
  have htakes := State.takes_of_idle hup hqueue hflight hsupply
  have hvoid := exec_voucherVoid (htakes .voucherVoid)
  refine ⟨?issued, ?claimed, ?noVoucher, ?range, ?close⟩
  case issued =>
    intro i v hslot
    obtain ⟨t, hnext, hanswer, hframe⟩ :=
      State.exec_respond ((hvoid _ _).trans (congrArg _ (takeVoucherVoid_issued hslot))) rfl
    have htable : t.table = s.table.void i v := congrArg State.table hframe
    refine ⟨t, hnext, by simp [htable], fun j hj => by simp [htable, hj], hanswer, ?_⟩
    rw [htable]
    exact hframe
  case claimed =>
    intro i v c e hslot
    exact State.exec_respond ((hvoid _ _).trans (congrArg _ (takeVoucherVoid_claimed hslot))) rfl
  case noVoucher =>
    intro i n hslot
    exact State.exec_respond ((hvoid _ _).trans (congrArg _ (takeVoucherVoid_noVoucher hslot))) rfl
  case range =>
    intro b n hb
    exact State.exec_respond ((hvoid b n).trans (congrArg _ (takeVoucherVoid_range hb))) rfl
  case close =>
    exact State.exec_respond (exec_periodClose (htakes .periodClose)) rfl

end Sys2Proof.Machine
end

section
/-! The probe of a link (R160 to R163): the bits of the status byte (R161, R172), and what the probe leaves of the link. -/

namespace Sys2Proof.Machine

/-! ### The bits of a flag byte (R166) -/

theorem testBit_foldr_bits (bits : List Bool) (i : Nat) :
    (bits.foldr (fun (b : Bool) n => b.toNat + 2 * n) 0).testBit i = bits.getD i false := by
  induction bits generalizing i with
  | nil => exact Nat.zero_testBit i
  | cons b bits ih =>
    rw [List.foldr_cons, Nat.add_comm, ← Nat.bit_val]
    cases i with
    | zero => exact Nat.testBit_bit_zero b _
    | succ i => exact (Nat.testBit_bit_succ i b _).trans (ih i)

/-- Bit `i` of a flag byte is its entry `i`, and no bit stands for an entry that is not there. -/
theorem flagByte_getLsbD (bits : List Bool) {i : Nat} (hi : i < 8) : (flagByte bits).getLsbD i = bits.getD i false := by
  rw [flagByte, BitVec.getLsbD_ofNat, testBit_foldr_bits, decide_eq_true hi, Bool.true_and]

theorem flagByte_eight_bits (b₀ b₁ b₂ b₃ b₄ b₅ b₆ b₇ : Bool) :
    let byte := flagByte [b₀, b₁, b₂, b₃, b₄, b₅, b₆, b₇]
    byte.getLsbD 0 = b₀ ∧ byte.getLsbD 1 = b₁ ∧ byte.getLsbD 2 = b₂ ∧ byte.getLsbD 3 = b₃ ∧
      byte.getLsbD 4 = b₄ ∧ byte.getLsbD 5 = b₅ ∧ byte.getLsbD 6 = b₆ ∧ byte.getLsbD 7 = b₇ := by
  have bit (i : Nat) (hi : i < 8) := flagByte_getLsbD [b₀, b₁, b₂, b₃, b₄, b₅, b₆, b₇] hi
  exact ⟨bit 0 (by decide), bit 1 (by decide), bit 2 (by decide), bit 3 (by decide), bit 4 (by decide),
    bit 5 (by decide), bit 6 (by decide), bit 7 (by decide)⟩

/-! ### The status bytes (R172) -/

/-- The low bit of a lane's state code is set in PARKED and SETTLING, its high bit in ACTIVE and SETTLING. -/
theorem LaneState.bits_eq (x : LaneState) :
    x.bits = [x == .parked || x == .settling, x == .active || x == .settling] := by
  cases x <;> rfl

theorem laneStatus_bits (x : Lane) (held : Bool) (p : LinkPort) :
    (laneStatus x held p).getLsbD 0 = (x.state == .parked || x.state == .settling) ∧
    (laneStatus x held p).getLsbD 1 = (x.state == .active || x.state == .settling) ∧
    (laneStatus x held p).getLsbD 2 = x.parkPending ∧ (laneStatus x held p).getLsbD 3 = held ∧
    (laneStatus x held p).getLsbD 4 = p.power ∧ (laneStatus x held p).getLsbD 5 = p.busy ∧
    (laneStatus x held p).getLsbD 6 = p.notices.state ∧ (laneStatus x held p).getLsbD 7 = p.notices.credit := by
  rw [laneStatus, LaneState.bits_eq]
  exact flagByte_eight_bits ..

theorem checkoutStatus_bits (p : LinkPort) :
    (checkoutStatus p).getLsbD 0 = p.busy ∧ (checkoutStatus p).getLsbD 1 = p.power ∧
    (checkoutStatus p).getLsbD 2 = p.notices.lapse ∧ (checkoutStatus p).getLsbD 3 = false ∧
    (checkoutStatus p).getLsbD 4 = false ∧ (checkoutStatus p).getLsbD 5 = false ∧
    (checkoutStatus p).getLsbD 6 = true ∧ (checkoutStatus p).getLsbD 7 = false :=
  flagByte_eight_bits ..

theorem officeStatus_bits (p : LinkPort) :
    (officeStatus p).getLsbD 0 = p.busy ∧ (officeStatus p).getLsbD 1 = p.power ∧
    (officeStatus p).getLsbD 2 = p.notices.bin ∧ (officeStatus p).getLsbD 3 = p.notices.belt ∧
    (officeStatus p).getLsbD 4 = p.notices.reject ∧ (officeStatus p).getLsbD 5 = p.notices.supply ∧
    (officeStatus p).getLsbD 6 = true ∧ (officeStatus p).getLsbD 7 = false :=
  flagByte_eight_bits ..

/-! ### The probe (R160) -/

/-- A link after a probe that is not ignored, with the status byte `b` formed: the notices are cleared, the power flag stays
only in HOLD-UP, and an idle transmitter sends `b` where a busy one leaves it pending (R160 to R163). -/
def LinkPort.probed (p : LinkPort) (holdUp : Bool) (b : Byte) : LinkPort :=
  { p with
    notices := {}
    power := p.power && holdUp
    pendingStatus := if p.transmitter = .idle then none else some b
    transmitter := if p.transmitter = .idle then .status b else p.transmitter }

theorem LinkPort.probed_attn (p : LinkPort) (holdUp : Bool) (b : Byte) : (p.probed holdUp b).attn = false := rfl

theorem State.takeProbe_pending {s : State} {l : Link} (hpending : (s.port l).pendingStatus.isSome = true) :
    s.takeProbe l = s :=
  if_pos hpending

theorem State.takeProbe_eq {s : State} {l : Link} (hnone : (s.port l).pendingStatus = none) :
    s.takeProbe l = s.setPort l ((s.port l).probed s.inHoldUp (s.statusByte l)) := by
  by_cases hidle : (s.port l).transmitter = .idle
  case pos => simp [State.takeProbe, LinkPort.probed, LinkPort.beginNext, hnone, hidle]
  case neg => simp [State.takeProbe, LinkPort.probed, hnone, hidle]

/-- In IDLE the byte 3Fh is the probe (R155). -/
theorem exec_probe_idle {s : State} {l : Link} (hup : s.isUp = true) (hidle : (s.port l).receiver = .idle) :
    exec (.probe l) s = .next (s.takeProbe l) := by
  calc exec (.probe l) s
      = .next (s.whenUp fun s => s.receive l 0x3F true) := rfl
    _ = .next (s.receive l 0x3F true) := congrArg Host.Outcome.next (if_pos hup)
    _ = .next (s.takeProbe l) := by simp [State.receive, hidle]

/-- Settles O26: a probe in IDLE is ignored while a status byte is pending (`State.takeProbe_pending`) and otherwise makes
the link `LinkPort.probed` (`State.takeProbe_eq`), with the status byte of the state before it. -/
theorem probeFormsStatusByte : Obligations.ProbeFormsStatusByte := by
  intro s l hup hidle
  rw [exec_probe_idle hup hidle]
  refine ⟨fun hpending => congrArg Host.Outcome.next (State.takeProbe_pending hpending), fun hnone => ?_⟩
  rw [State.takeProbe_eq hnone]
  have hport := s.port_setPort_self l ((s.port l).probed s.inHoldUp (s.statusByte l))
  refine ⟨_, s.statusByte l, rfl, hport, ?attn, fun l' hne => State.port_setPort_ne s hne _, rfl, ?lane, ?checkout, ?office⟩
  case attn => rw [hport]; exact LinkPort.probed_attn _ _ _
  case lane =>
    rintro k rfl
    exact laneStatus_bits (s.lane k) s.merge.held (s.port (.lane k))
  case checkout =>
    rintro rfl
    exact checkoutStatus_bits (s.port .checkout)
  case office =>
    rintro rfl
    exact officeStatus_bits (s.port .office)

end Sys2Proof.Machine
end

section
/-! What a step can do.  `Event` lists, with the guard of each, what a command or a timebase step makes of a state, and
`step_event` says that a step is always one of these; an invariant is then proved event by event. -/

namespace Sys2Proof.Machine

/-! ### The requests of the links (Table 10-2) -/

/-- The request kinds of each link with what their owners do (R157); one constructor a row of Table 10-2. -/
inductive Request : Link → ReqKind → (State → State) → Prop
  | openSession (k) : Request (.lane k) .openSession (takeOpen k)
  | container (k r) : Request (.lane k) .container (takeContainer k r)
  | endSession (k) : Request (.lane k) .endSession (takeEnd k)
  | cancel (k) : Request (.lane k) .cancel (takeCancel k)
  | laneQuery (k) : Request (.lane k) .laneQuery (takeLaneQuery k)
  | claim (c code) : Request .checkout .claim (takeClaim c code)
  | redeem (c code) : Request .checkout .redeem (takeRedeem c code)
  | unclaim (c code) : Request .checkout .unclaim (takeUnclaim c code)
  | cornerStatus : Request .office .cornerStatus takeCornerStatus
  | beltEnable : Request .office .beltEnable (·.setBeltEnable true)
  | beltStop : Request .office .beltStop (·.setBeltEnable false)
  | jamClear : Request .office .jamClear takeJamClear
  | recogWrite (i e k m c) : Request .office .recogWrite (takeRecogWrite i e k m c)
  | recogRead (i) : Request .office .recogRead (takeRecogRead i)
  | tariffBegin (c) : Request .office .tariffBegin (takeTariffBegin c)
  | tariffData (bytes) : Request .office .tariffData (takeTariffData bytes)
  | tariffRead (c) : Request .office .tariffRead (takeTariffRead c)
  | binRelease (x) : Request .office .binRelease (takeBinRelease x)
  | binReturn (x) : Request .office .binReturn (takeBinReturn x)
  | binRead (x) : Request .office .binRead (takeBinRead x)
  | rejectClear : Request .office .rejectClear takeRejectClear
  | voucherRead (i) : Request .office .voucherRead (takeVoucherRead i)
  | voucherVoid (i n) : Request .office .voucherVoid (takeVoucherVoid i n)
  | planStage (i f) : Request .office .planStage (takePlanStage i f)
  | planRead (p i) : Request .office .planRead (takePlanRead p i)
  | planApply : Request .office .planApply takePlanApply
  | totalsRead : Request .office .totalsRead takeTotalsRead
  | periodClose : Request .office .periodClose takePeriodClose

/-- A kind byte that test 2 of R156 lets through names a request kind of its link. -/
theorem mem_kindsOf_of_kindOf {l : Link} {kind : Byte} {k : ReqKind} (h : kindOf l kind = some k) : k ∈ kindsOf l :=
  List.mem_of_find?_eq_some h

/-- What the owner does with a frame read from its bytes is one of the requests of its link. -/
theorem takeBody_request {l : Link} {k : ReqKind} (h : k ∈ kindsOf l) (body : List Byte) :
    Request l k (takeBody l k body) := by
  cases l with
  | lane j =>
    simp only [kindsOf, List.mem_cons, List.not_mem_nil, or_false] at h
    rcases h with rfl | rfl | rfl | rfl | rfl <;> constructor
  | checkout =>
    simp only [kindsOf, List.mem_cons, List.not_mem_nil, or_false] at h
    rcases h with rfl | rfl | rfl <;> constructor
  | office =>
    simp only [kindsOf, List.mem_cons, List.not_mem_nil, or_false] at h
    rcases h with rfl | rfl | rfl | rfl | rfl | rfl | rfl | rfl | rfl | rfl | rfl | rfl | rfl | rfl | rfl | rfl | rfl |
      rfl | rfl | rfl <;> constructor

/-! ### The events -/

/-- The state in which the owner of a request finds the corner: the receiver is in IDLE (R155), and an open cursor is
closed by the kinds that close one (R32). -/
def State.handed (s : State) (l : Link) (k : ReqKind) : State :=
  if closesCursor l k then (s.setReceiver l .idle).closeCursor else s.setReceiver l .idle

/-- What one step can make of a state, once its command has left the queue. -/
inductive Event : State → State → Prop
  | nothing (s) : Event s s
  | timebase (s) (n : Nat) (q : List Instr) (hup : s.isUp = true) :
      Event s { s.advanceTimers with choices := n, pending := q }
  | pulse (s) (order : AdvanceOrder) (hup : s.isUp = true) : Event s (s.pulse order)
  | edge (s) (hup : s.isUp = true) (heye : s.belt.eyeBlocked = false) : Event s s.takeEdge
  | pulseWithEdge (s) (order : AdvanceOrder) (hup : s.isUp = true) (heye : s.belt.eyeBlocked = false) :
      Event s (s.pulseWithEdge order)
  | trailingEdge (s) (hup : s.isUp = true) : Event s s.trailingEdge
  | pressEstop (s) (hup : s.isUp = true) : Event s s.pressEstop
  | releaseEstop (s) (hup : s.isUp = true) : Event s s.releaseEstop
  | enterHoldUp (s) (hup : s.isUp = true) : Event s s.enterHoldUp
  | endHoldUp (s) (hup : s.isUp = true) : Event s s.endHoldUp
  | backupFlags (s) (low lost : Bool) (hup : s.isUp = true) : Event s (s.setBackupFlags low lost)
  | assertReset (s) : Event s s.assertReset
  | loseSupply (s) (backupFails : Bool) : Event s (s.loseSupply backupFails)
  | fullStart (s) (o : StartOrigin) (lines : StartLines) : Event s (s.fullStart o lines)
  | cutStart (s) (n : Nat) : Event s (s.cutStart n)
  | settleExpiry (s) (k : LaneId) (hup : s.isUp = true) (hst : (s.lane k).state = .settling) : Event s (s.limitClose k)
  | claimExpiry (s) (k : LaneId) (hup : s.isUp = true) (hc : (s.claimOf k).isSome = true) :
      Event s (s.refuseClaim k .noSlot)
  | lapse (s) (i : SlotId) (hup : s.isUp = true) : Event s (s.expireLapse i)
  | receiver (s) (l : Link) (r : Receiver) (hup : s.isUp = true) : Event s (s.setReceiver l r)
  | probe (s) (l : Link) (hup : s.isUp = true) : Event s (s.takeProbe l)
  | frameSent (s) (l : Link) (hup : s.isUp = true) : Event s (s.setPort l (s.port l).frameSent)
  | statusSent (s) (l : Link) (hup : s.isUp = true) : Event s (s.setPort l (s.port l).statusSent)
  | frameRefused (s) (l : Link) (r : Response) (hup : s.isUp = true) (hq : (s.port l).outQueue.length < 3) :
      Event s ((s.setReceiver l .idle).respond l r)
  | powerRefused (s) (l : Link) (k : ReqKind) (hup : s.isUp = true) (hq : (s.port l).outQueue.length < 3) :
      Event s ((s.handed l k).refuse l k.code .power)
  | request (s) {l : Link} {k : ReqKind} {take : State → State} (hr : Request l k take) (hup : s.isUp = true)
      (hq : (s.port l).outQueue.length < 3) (hb : (s.port l).passesBusy k = true)
      (hn : k = .cornerStatus ∨ s.inHoldUp = false) : Event s (take (s.handed l k))

/-- An event that is taken only while the part is up is nothing while it is down. -/
theorem Event.whenUp {s : State} {f : State → State} (h : s.isUp = true → Event s (f s)) : Event s (s.whenUp f) := by
  unfold State.whenUp
  split
  next hup => exact h hup
  next => exact .nothing s

/-- Tests 3 and 4 of R156 and the hand-over (R32, R151) on a frame of a known kind. -/
theorem Event.testRequest {s : State} {l : Link} {k : ReqKind} {take : State → State} (hr : Request l k take)
    (hup : s.isUp = true) (hq : (s.port l).outQueue.length < 3) (n : Nat) :
    Event s ((s.setReceiver l .idle).testRequest l k n take) := by
  unfold State.testRequest
  split
  · exact .frameRefused s l _ hup hq
  · split
    · exact .frameRefused s l _ hup hq
    next hb =>
      have hhanded : (if closesCursor l k then (s.setReceiver l .idle).closeCursor else s.setReceiver l .idle) =
          s.handed l k := rfl
      have hhold : (s.handed l k).inHoldUp = s.inHoldUp := by unfold State.handed; split <;> simp
      simp only [State.handOn, hhanded, hhold]
      split
      · exact .powerRefused s l k hup hq
      next hpower =>
        have hbusy : ((s.setReceiver l .idle).port l).passesBusy k = true := by simpa using hb
        rw [State.setReceiver_port_self] at hbusy
        refine .request s hr hup hq hbusy ?_
        simpa [or_comm, imp_iff_not_or] using hpower

/-- A frame completes: it is discarded (R159), or it is tested. -/
theorem Event.frameCompletes {s : State} {l : Link} {test : State → State} (hup : s.isUp = true)
    (h : (s.port l).outQueue.length < 3 → Event s (test (s.setReceiver l .idle))) : Event s (s.frameCompletes l test) := by
  simp only [State.frameCompletes, State.whenUp, hup, if_true]
  split
  · exact .receiver s l .idle hup
  next hq => exact h (by simpa [Config.discardAt] using hq)

/-- A request command. -/
theorem Event.requestCompletes {s : State} {l : Link} {k : ReqKind} {take : State → State} (hr : Request l k take)
    (n : Nat) : Event s (s.requestCompletes l k n take) := by
  cases hup : s.isUp with
  | false => rw [State.requestCompletes_down s l k n take hup]; exact .nothing s
  | true => exact .frameCompletes hup fun hq => .testRequest hr hup hq n

/-- A frame given by its bytes. -/
theorem Event.bytesComplete {s : State} (hup : s.isUp = true) (l : Link) (len kind : Byte) (body : List Byte)
    (check : Byte) : Event s (s.bytesComplete l len kind body check) := by
  refine .frameCompletes hup fun hq => ?_
  unfold State.testFrame
  split
  · exact .frameRefused s l _ hup hq
  · split
    · exact .frameRefused s l _ hup hq
    next k hk => exact .testRequest (takeBody_request (mem_kindsOf_of_kindOf hk) body) hup hq body.length

/-- A byte of a frame. -/
theorem Event.frameByte {s : State} (hup : s.isUp = true) (l : Link) (bytes : List Byte) (b : Byte) :
    Event s (s.frameByte l bytes b) := by
  unfold State.frameByte
  split
  · split <;> exact .receiver s l _ hup
  · exact .receiver s l _ hup
  · split
    · exact .bytesComplete hup l _ _ _ b
    · exact .receiver s l _ hup

/-- A byte received (R155). -/
theorem Event.receive {s : State} (hup : s.isUp = true) (l : Link) (b : Byte) (stopBit : Bool) :
    Event s (s.receive l b stopBit) := by
  unfold State.receive
  split
  · split
    · exact .receiver s l _ hup
    · split
      · exact .probe s l hup
      · exact .nothing s
  · exact .frameByte hup l _ b
  · split <;> exact .receiver s l _ hup
  · exact .nothing s
  · exact .receiver s l _ hup
  · exact .nothing s

/-- A leading edge (R10). -/
theorem Event.leadingEdge {s : State} (hup : s.isUp = true) (p : Option AdvanceOrder) : Event s (s.leadingEdge p) := by
  unfold State.leadingEdge
  split
  next heye => exact .edge s hup heye
  next => exact .nothing s
  next heye => exact .pulseWithEdge s _ hup heye
  next => exact .pulse s _ hup

/-- The meaning of every command is an event. -/
theorem exec_event {c : Instr} {s t : State} (h : exec c s = .next t) : Event s t := by
  cases c with
  | encoderPulse order => obtain ⟨⟩ := h; exact .whenUp fun hup => .pulse s order hup
  | leadingEdge p => obtain ⟨⟩ := h; exact .whenUp fun hup => .leadingEdge hup p
  | trailingEdge => obtain ⟨⟩ := h; exact .whenUp fun hup => .trailingEdge s hup
  | estopAsserted => obtain ⟨⟩ := h; exact .whenUp fun hup => .pressEstop s hup
  | estopReleased => obtain ⟨⟩ := h; exact .whenUp fun hup => .releaseEstop s hup
  | supwarnAsserted =>
    obtain ⟨⟩ := h
    refine .whenUp fun hup => ?_
    unfold State.warn
    split
    · exact .nothing s
    · exact .enterHoldUp s hup
  | supwarnWithdrawn => obtain ⟨⟩ := h; exact .whenUp fun hup => .endHoldUp s hup
  | backupFlagChange low lost => obtain ⟨⟩ := h; exact .whenUp fun hup => .backupFlags s low lost hup
  | resetAsserted => obtain ⟨⟩ := h; exact .assertReset s
  | mainSupplyLoss b => obtain ⟨⟩ := h; exact .loseSupply s b
  | start o lines cut =>
    obtain ⟨⟩ := h
    cases cut with
    | none => exact .fullStart s o lines
    | some n => exact .cutStart s n
  | settleTimerExpiry k =>
    obtain ⟨⟩ := h
    refine .whenUp fun hup => ?_
    unfold State.expireSettle
    split
    · split
      next hst => exact .settleExpiry s k hup hst
      next => exact .nothing s
    · exact .nothing s
  | claimWaitExpiry k =>
    obtain ⟨⟩ := h
    refine .whenUp fun hup => ?_
    unfold State.expireClaimWait
    split
    · split
      next hc => exact .claimExpiry s k hup hc
      next => exact .nothing s
    · exact .nothing s
  | claimLapse i =>
    obtain ⟨⟩ := h
    refine .whenUp fun hup => ?_
    split
    · exact .lapse s i hup
    · exact .nothing s
  | gapTimerExpiry l =>
    obtain ⟨⟩ := h
    refine .whenUp fun hup => ?_
    split
    · exact .receiver s l _ hup
    · exact .nothing s
  | byteReceived l b stop => obtain ⟨⟩ := h; exact .whenUp fun hup => .receive hup l b stop
  | probe l => obtain ⟨⟩ := h; exact .whenUp fun hup => .receive hup l _ true
  | frameRefused l kind body check =>
    obtain ⟨⟩ := h
    cases hup : s.isUp with
    | false => simpa [State.bytesComplete, State.frameCompletes, State.whenUp, hup] using Event.nothing s
    | true => exact .bytesComplete hup l _ kind body check
  | frameTransmitted l => obtain ⟨⟩ := h; exact .whenUp fun hup => .frameSent s l hup
  | statusByteTransmitted l => obtain ⟨⟩ := h; exact .whenUp fun hup => .statusSent s l hup
  | openSession k => obtain ⟨⟩ := h; exact .requestCompletes (.openSession k) _
  | container k r => obtain ⟨⟩ := h; exact .requestCompletes (.container k r) _
  | endSession k => obtain ⟨⟩ := h; exact .requestCompletes (.endSession k) _
  | cancel k => obtain ⟨⟩ := h; exact .requestCompletes (.cancel k) _
  | laneQuery k => obtain ⟨⟩ := h; exact .requestCompletes (.laneQuery k) _
  | claim c code => obtain ⟨⟩ := h; exact .requestCompletes (.claim c code) _
  | redeem c code => obtain ⟨⟩ := h; exact .requestCompletes (.redeem c code) _
  | unclaim c code => obtain ⟨⟩ := h; exact .requestCompletes (.unclaim c code) _
  | cornerStatus => obtain ⟨⟩ := h; exact .requestCompletes .cornerStatus _
  | beltEnable => obtain ⟨⟩ := h; exact .requestCompletes .beltEnable _
  | beltStop => obtain ⟨⟩ := h; exact .requestCompletes .beltStop _
  | jamClear => obtain ⟨⟩ := h; exact .requestCompletes .jamClear _
  | recogWrite i e k m c => obtain ⟨⟩ := h; exact .requestCompletes (.recogWrite i e k m c) _
  | recogRead i => obtain ⟨⟩ := h; exact .requestCompletes (.recogRead i) _
  | tariffBegin c => obtain ⟨⟩ := h; exact .requestCompletes (.tariffBegin c) _
  | tariffData bytes => obtain ⟨⟩ := h; exact .requestCompletes (.tariffData bytes) _
  | tariffRead c => obtain ⟨⟩ := h; exact .requestCompletes (.tariffRead c) _
  | binRelease x => obtain ⟨⟩ := h; exact .requestCompletes (.binRelease x) _
  | binReturn x => obtain ⟨⟩ := h; exact .requestCompletes (.binReturn x) _
  | binRead x => obtain ⟨⟩ := h; exact .requestCompletes (.binRead x) _
  | rejectClear => obtain ⟨⟩ := h; exact .requestCompletes .rejectClear _
  | voucherRead i => obtain ⟨⟩ := h; exact .requestCompletes (.voucherRead i) _
  | voucherVoid i n => obtain ⟨⟩ := h; exact .requestCompletes (.voucherVoid i n) _
  | totalsRead => obtain ⟨⟩ := h; exact .requestCompletes .totalsRead _
  | periodClose => obtain ⟨⟩ := h; exact .requestCompletes .periodClose _
  | planStage i f => obtain ⟨⟩ := h; exact .requestCompletes (.planStage i f) _
  | planRead p i => obtain ⟨⟩ := h; exact .requestCompletes (.planRead p i) _
  | planApply => obtain ⟨⟩ := h; exact .requestCompletes .planApply _

/-- A timebase step is an event. -/
theorem timebaseStep_event (s : State) : Event s s.timebaseStep := by
  unfold State.timebaseStep
  refine .whenUp fun hup => ?_
  have hframe := (State.queueExpiries_spec _ s.advanceTimers.dueExpiries s.advanceTimers le_rfl).2
  rw [hframe]
  exact .timebase s _ _ hup

/-- Every step is an event on the state whose command has left the queue. -/
theorem step_event {s t : State} (h : step s = .next t) : ∃ q : List Instr, Event { s with pending := q } t := by
  unfold step at h
  split at h
  next hq =>
    obtain ⟨⟩ := h
    exact ⟨s.pending, timebaseStep_event s⟩
  next c rest _ => exact ⟨rest, exec_event h⟩

end Sys2Proof.Machine
end

section
/-! The kept indications running, held and at-limit (R7, R63, R112): every event of a step leaves them what their causes make
them. -/

namespace Sys2Proof.Machine

/-! ### What the indications read -/

/-- The indications agree in a state that shows Belt Control, the marks and the supply as one in which they agree. -/
theorem State.FlagsAgree.congr {s t : State} (h : s.FlagsAgree) (hbelt : t.belt = s.belt)
    (hhold : t.merge.mergeHold = s.merge.mergeHold) (hheld : t.merge.held = s.merge.held) (hreject : t.reject = s.reject)
    (hcorner : t.corner = s.corner) (hsupply : t.inHoldUp = s.inHoldUp) : t.FlagsAgree := by
  unfold State.FlagsAgree State.heldCauses State.runConditions at *
  rw [hbelt, hhold, hheld, hreject, hcorner, hsupply]
  exact h

/-- Forming held again (R63) mends held alone. -/
theorem State.flagsAgree_reformHeld {s : State} (hrun : s.belt.running = s.runConditions)
    (hlimit : s.reject.atLimit = decide (s.corner.rejectLimit ≤ s.reject.count)) : s.reformHeld.FlagsAgree := by
  refine ⟨?_, ?_, ?_⟩
  · simpa [State.runConditions] using hrun
  · rw [State.reformHeld_merge, State.reformHeld_heldCauses]
  · simpa using hlimit

/-- Evaluating running (R7) after one of its conditions was written, with the belt not yet told. -/
theorem State.FlagsAgree.reevaluateRunning {s : State} {b : BeltControl} (h : s.FlagsAgree)
    (hb : b.running = s.belt.running) : (State.reevaluateRunning { s with belt := b }).FlagsAgree := by
  obtain ⟨_, hheld, hlimit⟩ := h
  unfold State.reevaluateRunning
  split
  next hrun =>
    refine ⟨hrun.symm, hheld.trans ?_, hlimit⟩
    simp [State.heldCauses, State.inHoldUp, hb]
  next => exact State.flagsAgree_reformHeld rfl hlimit

/-! ### Sessions, merges and the gate -/

/-- A notice, a response and a change of a link leave the indications alone. -/
theorem State.FlagsAgree.setPort {s : State} (h : s.FlagsAgree) (l : Link) (p : LinkPort) : (s.setPort l p).FlagsAgree :=
  h.congr rfl rfl rfl rfl rfl rfl

theorem State.FlagsAgree.setMergeHold {s : State} (h : s.FlagsAgree) (x : Bool) :
    (s.setMergeHold x).reformHeld.FlagsAgree :=
  State.flagsAgree_reformHeld h.1 h.2.2

theorem State.FlagsAgree.refuseClaim {s : State} (h : s.FlagsAgree) (k : LaneId) (reason : Reason) :
    (s.refuseClaim k reason).FlagsAgree :=
  h.congr (by simp) (by simp) (by simp) (by simp) (by simp) (by simp)

theorem State.FlagsAgree.grant {s : State} (h : s.FlagsAgree) (c : Claim) (b : BinId) : (s.grant c b).FlagsAgree := by
  have hdropped : (s.dropClaim c.lane).FlagsAgree := h.congr rfl rfl rfl rfl rfl rfl
  have hinserted : ((s.dropClaim c.lane).insertRecord (s.grantedRecord c b)).FlagsAgree :=
    State.flagsAgree_reformHeld hdropped.1 hdropped.2.2
  exact hinserted.congr (by simp [State.grant]) (by simp [State.grant]) (by simp [State.grant]) (by simp [State.grant])
    (by simp [State.grant]) (by simp [State.grant])

theorem State.FlagsAgree.decideClaim {s : State} (h : s.FlagsAgree) (c : Claim) : (s.decideClaim c).FlagsAgree := by
  unfold State.decideClaim
  split
  · split
    · exact h.grant c _
    · exact h.refuseClaim _ _
  · exact h

theorem State.FlagsAgree.mergePass {s : State} (h : s.FlagsAgree) : s.mergePass.FlagsAgree := by
  unfold State.mergePass
  generalize s.merge.claims = claims
  induction claims generalizing s with
  | nil => exact h
  | cons c rest ih => exact ih (h.decideClaim c)

theorem State.FlagsAgree.passIfReleased {t : State} (h : t.FlagsAgree) (s : State) : (t.passIfReleased s).FlagsAgree := by
  unfold State.passIfReleased
  split
  · exact h.mergePass
  · exact h

theorem State.FlagsAgree.removeHead {s : State} (h : s.FlagsAgree) (rest : List TransitRecord) :
    (s.removeHead rest).FlagsAgree :=
  State.flagsAgree_reformHeld h.1 h.2.2

theorem State.FlagsAgree.matchHead {s : State} (h : s.FlagsAgree) (r : TransitRecord) (rest : List TransitRecord) :
    (s.matchHead r rest).FlagsAgree :=
  (h.removeHead rest).congr (by simp) (by simp) (by simp) (by simp) (by simp) (by simp)

theorem State.FlagsAgree.missHead {s : State} (h : s.FlagsAgree) (r : TransitRecord) (rest : List TransitRecord) :
    (s.missHead r rest).FlagsAgree :=
  (h.removeHead rest).congr (by simp) (by simp) (by simp) (by simp) (by simp) (by simp)

/-- At-limit evaluated (R112), with held formed again after it. -/
theorem State.flagsAgree_evalAtLimit {s : State} (hrun : s.belt.running = s.runConditions) :
    s.evalAtLimit.reformHeld.FlagsAgree :=
  State.flagsAgree_reformHeld hrun rfl

theorem State.FlagsAgree.stray {s : State} (h : s.FlagsAgree) : s.stray.FlagsAgree := by
  have hcounted : (State.countReject { s with chute := 0 }).FlagsAgree := State.flagsAgree_evalAtLimit h.1
  exact hcounted.congr rfl rfl rfl rfl rfl rfl

theorem State.FlagsAgree.decideAgain {s : State} (h : s.FlagsAgree) (e : Count) : (s.decideAgain e).FlagsAgree := by
  unfold State.decideAgain
  split
  · exact h.stray.mergePass
  · split
    · exact (h.matchHead _ _).mergePass.mergePass
    · exact h.stray.mergePass

theorem State.FlagsAgree.decideEdge {s : State} (h : s.FlagsAgree) (e : Count) : (s.decideEdge e).FlagsAgree := by
  unfold State.decideEdge
  split
  · exact h.stray
  · split
    · exact h.stray
    · exact (h.matchHead _ _).mergePass
    · exact (h.missHead _ _).decideAgain e
    · exact (h.missHead _ _).decideAgain e

theorem State.FlagsAgree.takeEdge {s : State} (h : s.FlagsAgree) : s.takeEdge.FlagsAgree :=
  have hedge : s.atEdge.FlagsAgree := h
  hedge.decideEdge _

/-! ### The takers of an advance -/

theorem State.FlagsAgree.jamAdvance {s : State} (h : s.FlagsAgree) : s.jamAdvance.FlagsAgree := by
  unfold State.jamAdvance State.declareJam
  split
  · split
    · exact State.FlagsAgree.setPort (h.reevaluateRunning (b := { s.belt with jam := true, watch := none }) rfl) _ _
    · exact h
  · exact h

theorem State.FlagsAgree.gateAdvance {s : State} (h : s.FlagsAgree) : s.gateAdvance.FlagsAgree := by
  unfold State.gateAdvance
  split
  · exact h
  · split
    · exact (h.missHead _ _).mergePass
    · exact h

/-- A law that the count's advance and each taker keep is kept by a pulse. -/
theorem State.pulse_keeps {P : State → Prop} {s : State} (hcount : P s.advanceCount)
    (hjam : ∀ t, P t → P t.jamAdvance) (hgate : ∀ t, P t → P t.gateAdvance) (hmerge : ∀ t, P t → P t.mergePass)
    (order : AdvanceOrder) : P (s.pulse order) := by
  have htaker : ∀ (takers : List Taker) (t : State), P t → P (takers.foldl State.takeAdvance t) := by
    intro takers
    induction takers with
    | nil => exact fun _ h => h
    | cons x rest ih =>
      intro t h
      cases x with
      | jam => exact ih _ (hjam t h)
      | gate => exact ih _ (hgate t h)
      | merge => exact ih _ (hmerge t h)
  exact htaker _ _ hcount

/-- The same with the edge taken before the gate's part of the advance. -/
theorem State.pulseWithEdge_keeps {P : State → Prop} {s : State} (hcount : P s.advanceCount)
    (hjam : ∀ t, P t → P t.jamAdvance) (hedge : ∀ t, P t → P t.takeEdge) (hgate : ∀ t, P t → P t.gateAdvance)
    (hmerge : ∀ t, P t → P t.mergePass) (order : AdvanceOrder) : P (s.pulseWithEdge order) := by
  have htaker : ∀ (takers : List Taker) (t : State), P t → P (takers.foldl State.takeAdvanceAfterEdge t) := by
    intro takers
    induction takers with
    | nil => exact fun _ h => h
    | cons x rest ih =>
      intro t h
      cases x with
      | jam => exact ih _ (hjam t h)
      | gate => exact ih _ (hgate _ (hedge t h))
      | merge => exact ih _ (hmerge t h)
  exact htaker _ _ hcount

/-! ### The Supply Monitor -/

/-- A write of the supply state is followed by both evaluations (R150, R152). -/
theorem State.FlagsAgree.setSupplyState {s : State} (h : s.FlagsAgree) (x : SupplyState) :
    (((s.setSupplyState x).reevaluateRunning).reformHeld).FlagsAgree := by
  refine State.flagsAgree_reformHeld ?_ ?_
  · simp [State.runConditions, State.inHoldUp]
  · rw [State.reevaluateRunning_reject, State.reevaluateRunning_corner]
    exact h.2.2

@[simp] theorem State.holdUpLane_flags (s : State) (k : LaneId) :
    (s.holdUpLane k).belt = s.belt ∧ (s.holdUpLane k).merge.mergeHold = s.merge.mergeHold ∧
      (s.holdUpLane k).merge.held = s.merge.held ∧ (s.holdUpLane k).reject = s.reject ∧
      (s.holdUpLane k).corner = s.corner ∧ (s.holdUpLane k).inHoldUp = s.inHoldUp := by
  unfold State.holdUpLane
  split <;> (try split) <;> simp

theorem State.FlagsAgree.holdUpLane {s : State} (h : s.FlagsAgree) (k : LaneId) : (s.holdUpLane k).FlagsAgree := by
  obtain ⟨hbelt, hhold, hheld, hreject, hcorner, hsupply⟩ := s.holdUpLane_flags k
  exact h.congr hbelt hhold hheld hreject hcorner hsupply

/-- Every lane in turn. -/
theorem foldl_lanes_keeps {P : State → Prop} {f : State → LaneId → State} (h : ∀ s k, P s → P (f s k)) {s : State}
    (hs : P s) (ks : List LaneId) : P (ks.foldl f s) :=
  List.foldlRecOn ks f hs fun t ht k _ => h t k ht

/-- The lane modes of the active plan are no cause of an indication. -/
theorem State.FlagsAgree.parkModes {s : State} (h : s.FlagsAgree) :
    State.FlagsAgree { s with plans := { s.plans with active := s.plans.active.parkModes } } :=
  h.congr rfl rfl rfl rfl rfl rfl

theorem State.FlagsAgree.enterHoldUp {s : State} (h : s.FlagsAgree) : s.enterHoldUp.FlagsAgree := by
  have hclosed := foldl_lanes_keeps (P := State.FlagsAgree) (fun _ k ht => ht.holdUpLane k) (h.setSupplyState .holdUp)
    laneIds
  have hpowered := List.foldlRecOn (motive := State.FlagsAgree) links State.setPower hclosed.parkModes
    fun _ ht l _ => ht.setPort l _
  exact hpowered.setPort _ _

theorem State.FlagsAgree.endHoldUp {s : State} (h : s.FlagsAgree) : s.endHoldUp.FlagsAgree := by
  unfold State.endHoldUp
  split
  · exact ((h.setSupplyState .normal).setPort _ _).passIfReleased s
  · exact h

/-- With the volatile domain lost the belt is stopped and held is yes (R145, R146). -/
theorem State.FlagsAgree.loseVolatile {s : State} (h : s.FlagsAgree) : s.loseVolatile.FlagsAgree :=
  ⟨rfl, rfl, h.2.2⟩

@[simp] theorem State.recoverLane_flags (s : State) (k : LaneId) :
    (s.recoverLane k).belt = s.belt ∧ (s.recoverLane k).merge = s.merge ∧ (s.recoverLane k).reject = s.reject ∧
      (s.recoverLane k).corner = s.corner ∧ (s.recoverLane k).inHoldUp = s.inHoldUp := by
  simp only [State.recoverLane]
  split <;> exact ⟨rfl, rfl, rfl, rfl, rfl⟩

theorem State.FlagsAgree.recoverLanes {s : State} (h : s.FlagsAgree) (n : Nat) : (s.recoverLanes n).FlagsAgree := by
  refine foldl_lanes_keeps (fun t k ht => ?_) ?_ _
  · obtain ⟨hbelt, hmerge, hreject, hcorner, hsupply⟩ := t.recoverLane_flags k
    exact ht.congr hbelt (by rw [hmerge]) (by rw [hmerge]) hreject hcorner hsupply
  · exact h.congr rfl rfl rfl rfl rfl rfl

/-- A lane recovery leaves the Merge Arbiter as a start finds it. -/
@[simp] theorem State.recoverLanes_merge (s : State) (n : Nat) : (s.recoverLanes n).merge = s.merge := by
  unfold State.recoverLanes
  refine foldl_lanes_keeps (P := fun t => t.merge = s.merge) (fun t k ht => ?_) ?_ _
  · exact (t.recoverLane_flags k).2.1.trans ht
  · rfl

/-- A start leaves the belt stopped, held at yes, and at-limit as it was evaluated (R17, R149). -/
theorem State.flagsAgree_finishStart {s : State} (hheld : s.merge.held = true)
    (hlimit : s.reject.atLimit = decide (s.corner.rejectLimit ≤ s.reject.count)) (cause : ResetCause)
    (lines : StartLines) : (s.finishStart cause lines).FlagsAgree :=
  ⟨rfl, hheld, hlimit⟩

theorem State.flagsAgree_fullStart (s : State) (o : StartOrigin) (lines : StartLines) :
    (s.fullStart o lines).FlagsAgree := by
  have hheld : s.warmWork.merge.held = true := by simp [State.warmWork, State.loseVolatile]
  have hwarm : ∀ cause, (s.warmWork.finishStart cause lines).FlagsAgree := 
    fun cause => State.flagsAgree_finishStart hheld rfl cause lines
  have hcold : (s.coldWork.finishStart .cold lines).FlagsAgree := ⟨rfl, rfl, rfl⟩
  have hstarted : ∀ marker : Bool, State.FlagsAgree
      (if marker then s.warmWork.finishStart (warmCause (s.startOrigin o)) lines else s.coldWork.finishStart .cold lines) :=
    fun marker => by
      split
      · exact hwarm _
      · exact hcold
  unfold State.fullStart
  simp only
  split
  · exact (hstarted _).enterHoldUp
  · exact hstarted _

/-! ### Requests -/

/-- A response leaves the indications alone. -/
theorem State.FlagsAgree.respond {s : State} (h : s.FlagsAgree) (l : Link) (r : Response) : (s.respond l r).FlagsAgree :=
  h.setPort _ _

theorem State.FlagsAgree.handed {s : State} (h : s.FlagsAgree) (l : Link) (k : ReqKind) : (s.handed l k).FlagsAgree := by
  unfold State.handed
  split <;> exact h

theorem State.FlagsAgree.setBeltEnable {s : State} (h : s.FlagsAgree) (on : Bool) : (s.setBeltEnable on).FlagsAgree :=
  State.FlagsAgree.passIfReleased
    (State.FlagsAgree.respond (h.reevaluateRunning (b := { s.belt with enable := on }) rfl) _ _) s

theorem State.FlagsAgree.takeJamClear {s : State} (h : s.FlagsAgree) : (takeJamClear s).FlagsAgree := by
  unfold Machine.takeJamClear
  split
  · exact h.respond _ _
  · exact State.FlagsAgree.passIfReleased
      (State.FlagsAgree.respond (h.reevaluateRunning (b := { s.belt with jam := false }) rfl) _ _) s

theorem State.FlagsAgree.takeRejectClear {s : State} (h : s.FlagsAgree) : (takeRejectClear s).FlagsAgree := by
  have hcleared := State.flagsAgree_evalAtLimit (s := { s with reject := { s.reject with count := 0 } }) h.1
  unfold Machine.takeRejectClear State.respondOffice
  exact State.FlagsAgree.passIfReleased (hcleared.respond _ _) s

/-- Steps 1 to 4 of an apply: the plan, the lanes, the bins and the WARN tests (R139). -/
def State.appliedParts (s : State) : State :=
  binIds.foldl State.warnTest (binIds.foldl State.applyBin
    (laneIds.foldl State.applyLane { s with plans := { s.plans with active := s.plans.staged } }))

/-- At-limit, merge-hold and held evaluated after an apply's parts (R112, R65, R63). -/
def State.reevaluated (s : State) : State := (s.evalAtLimit.setMergeHold s.evalAtLimit.holdAtApply).reformHeld

/-- An apply is its parts, the evaluations, and one pass (R139). -/
theorem State.applyPlan_eq (s : State) : s.applyPlan = s.appliedParts.reevaluated.mergePass := rfl

theorem State.flagsAgree_reevaluated {s : State} (hrun : s.belt.running = s.runConditions) : s.reevaluated.FlagsAgree :=
  State.flagsAgree_reformHeld hrun rfl

/-- A law that each lane and each bin of an apply keeps is kept by the parts of an apply. -/
theorem State.appliedParts_keeps {P : State → Prop} {s : State}
    (hplan : P { s with plans := { s.plans with active := s.plans.staged } })
    (hlane : ∀ t k, P t → P (t.applyLane k)) (hbin : ∀ t b, P t → P (t.applyBin b))
    (hwarn : ∀ t b, P t → P (t.warnTest b)) : P s.appliedParts :=
  List.foldlRecOn binIds State.warnTest
    (List.foldlRecOn binIds State.applyBin (foldl_lanes_keeps hlane hplan laneIds) fun t ht b _ => hbin t b ht)
    fun t ht b _ => hwarn t b ht

@[simp] theorem State.applyLane_belt (s : State) (k : LaneId) : (s.applyLane k).belt = s.belt := by
  simp only [State.applyLane]
  split <;> rfl

@[simp] theorem State.applyLane_inHoldUp (s : State) (k : LaneId) : (s.applyLane k).inHoldUp = s.inHoldUp := by
  simp only [State.applyLane]
  split <;> rfl

theorem State.FlagsAgree.applyPlan {s : State} (h : s.FlagsAgree) : s.applyPlan.FlagsAgree := by
  rw [State.applyPlan_eq]
  refine State.FlagsAgree.mergePass (State.flagsAgree_reevaluated ?_)
  refine State.appliedParts_keeps (P := fun t => t.belt.running = t.runConditions) h.1 (fun t k ht => ?_)
    (fun t b ht => ht) fun t b ht => ?_
  · simpa [State.runConditions] using ht
  · simpa [State.runConditions] using ht

/-- The requests that only read, and those that write no indication's cause, end in a response or in a pass. -/
theorem Request.keeps_flags {l : Link} {k : ReqKind} {take : State → State} (hr : Request l k take) {s : State}
    (h : s.FlagsAgree) : (take s).FlagsAgree := by
  cases hr with
  | openSession k =>
    unfold takeOpen
    split
    · split
      · exact h.congr rfl rfl rfl rfl rfl rfl
      · exact h.respond _ _
    · exact h.respond _ _
  | container k r =>
    unfold takeContainer
    split
    · exact h.respond _ _
    · split
      · split
        · exact h.respond _ _
        · exact State.FlagsAgree.mergePass (h.congr rfl rfl rfl rfl rfl rfl)
      · exact h.respond _ _
  | endSession k =>
    unfold takeEnd
    split
    · split
      · exact h.congr (by simp) (by simp) (by simp) (by simp) (by simp) (by simp)
      · exact h.congr rfl rfl rfl rfl rfl rfl
    · exact h.respond _ _
  | cancel k =>
    unfold takeCancel
    split
    · exact h.refuseClaim _ _
    · exact h.respond _ _
    · exact h.respond _ _
  | laneQuery k => exact h.respond _ _
  | claim c code =>
    unfold takeClaim
    split
    · exact h.respond _ _
    · split
      · exact h.congr rfl rfl rfl rfl rfl rfl
      · exact h.respond _ _
  | redeem c code =>
    unfold takeRedeem
    split
    · exact h.respond _ _
    · split
      · exact h.respond _ _
      · split
        · exact h.congr rfl rfl rfl rfl rfl rfl
        · exact h.respond _ _
  | unclaim c code =>
    unfold takeUnclaim
    split
    · exact h.respond _ _
    · split
      · exact h.respond _ _
      · split
        · exact h.congr rfl rfl rfl rfl rfl rfl
        · exact h.respond _ _
  | cornerStatus => exact h.respond _ _
  | beltEnable => exact h.setBeltEnable true
  | beltStop => exact h.setBeltEnable false
  | jamClear => exact h.takeJamClear
  | recogWrite i e k m c =>
    unfold takeRecogWrite
    split
    · exact h.congr rfl rfl rfl rfl rfl rfl
    · exact h.respond _ _
  | recogRead i =>
    unfold takeRecogRead
    split <;> exact h.respond _ _
  | tariffBegin c =>
    unfold takeTariffBegin
    split
    · exact h.congr rfl rfl rfl rfl rfl rfl
    · exact h.respond _ _
  | tariffData bytes =>
    unfold takeTariffData
    split
    · exact h.respond _ _
    · exact h.congr rfl rfl rfl rfl rfl rfl
  | tariffRead c =>
    unfold takeTariffRead
    split <;> exact h.respond _ _
  | binRelease x =>
    unfold takeBinRelease
    split
    · exact h.respond _ _
    · split
      · exact h.respond _ _
      · exact State.FlagsAgree.mergePass (h.congr rfl rfl rfl rfl rfl rfl)
  | binReturn x =>
    unfold takeBinReturn
    split
    · exact h.respond _ _
    · split
      · exact State.FlagsAgree.mergePass (h.congr rfl rfl rfl rfl rfl rfl)
      · exact h.respond _ _
  | binRead x =>
    unfold takeBinRead
    split
    · exact h.respond _ _
    · split <;> exact h.respond _ _
  | rejectClear => exact h.takeRejectClear
  | voucherRead i =>
    unfold takeVoucherRead
    split <;> exact h.respond _ _
  | voucherVoid i n =>
    unfold takeVoucherVoid
    split
    · exact h.respond _ _
    · split
      · exact h.respond _ _
      · split
        · exact h.congr rfl rfl rfl rfl rfl rfl
        · exact h.respond _ _
      · exact h.respond _ _
  | planStage i f =>
    unfold takePlanStage
    split
    · exact h.respond _ _
    · split
      · exact h.congr rfl rfl rfl rfl rfl rfl
      · exact h.respond _ _
    · split
      · exact h.congr rfl rfl rfl rfl rfl rfl
      · exact h.respond _ _
    · split
      · exact h.congr rfl rfl rfl rfl rfl rfl
      · exact h.respond _ _
  | planRead p i =>
    unfold takePlanRead
    split <;> exact h.respond _ _
  | planApply =>
    unfold takePlanApply
    split
    · exact h.respond _ _
    · exact h.applyPlan.respond _ _
  | totalsRead => exact h.respond _ _
  | periodClose => exact h.congr rfl rfl rfl rfl rfl rfl

/-! ### Every event -/

theorem Event.keeps_flags {s t : State} (e : Event s t) (h : s.FlagsAgree) : t.FlagsAgree := by
  cases e with
  | nothing => exact h
  | timebase n q hup => exact h.congr rfl rfl rfl rfl rfl rfl
  | pulse order hup =>
    exact State.pulse_keeps (P := State.FlagsAgree) h (fun _ => (·.jamAdvance)) (fun _ => (·.gateAdvance))
      (fun _ => (·.mergePass)) order
  | edge hup heye => exact h.takeEdge
  | pulseWithEdge order hup heye =>
    exact State.pulseWithEdge_keeps (P := State.FlagsAgree) h (fun _ => (·.jamAdvance)) (fun _ => (·.takeEdge))
      (fun _ => (·.gateAdvance)) (fun _ => (·.mergePass)) order
  | trailingEdge hup =>
    unfold State.trailingEdge
    split <;> exact h
  | pressEstop hup =>
    exact State.FlagsAgree.setPort (h.reevaluateRunning (b := { s.belt with estopPressed := true }) rfl) _ _
  | releaseEstop hup =>
    exact State.FlagsAgree.passIfReleased (h.reevaluateRunning (b := { s.belt with estopPressed := false }) rfl) s
  | enterHoldUp hup => exact h.enterHoldUp
  | endHoldUp hup => exact h.endHoldUp
  | backupFlags low lost hup =>
    simp only [State.setBackupFlags]
    split <;> exact h
  | assertReset => exact h.loseVolatile
  | loseSupply b => exact h.loseVolatile
  | fullStart o lines => exact s.flagsAgree_fullStart o lines
  | cutStart n =>
    unfold State.cutStart
    cases s.supply.marker
    · exact h.loseVolatile
    · exact h.loseVolatile.recoverLanes n
  | settleExpiry k hup hst => exact h.congr (by simp) (by simp) (by simp) (by simp) (by simp) (by simp)
  | claimExpiry k hup hc => exact h.refuseClaim _ _
  | lapse i hup =>
    unfold State.expireLapse
    split <;> exact h
  | receiver l r hup => exact h.setPort _ _
  | probe l hup =>
    unfold State.takeProbe
    simp only
    split
    · exact h
    · exact h.setPort _ _
  | frameSent l hup => exact h.setPort _ _
  | statusSent l hup => exact h.setPort _ _
  | frameRefused l r hup hq => exact State.FlagsAgree.respond (h.setPort _ _) _ _
  | powerRefused l k hup hq => exact (h.handed l k).respond _ _
  | request hr hup hq hb hn => exact hr.keeps_flags (h.handed _ _)

/-- Settles O54: a step is one of the events of `step_event`, each keeps the indications, and the commands that wait are no
cause of any. -/
theorem stepKeepsFlags : Obligations.StepKeepsFlags := by
  intro s t h hstep
  obtain ⟨q, hevent⟩ := step_event hstep
  exact hevent.keeps_flags (h.congr rfl rfl rfl rfl rfl rfl)

end Sys2Proof.Machine
end

section
/-! The laws of lanes, records, bins and vouchers, part by part of a step.  Much of a step touches only indications, notices,
receivers and totals (`State.Alike`); `PartLaw` lists the parts that touch more, and an invariant that each of them keeps is
kept by every event. -/

namespace Sys2Proof.Machine

/-! ### States that differ in indications, notices, receivers and totals only -/

/-- State `t` shows the lanes, claims, records, bins, vouchers, active plan and requests in flight of state `s`, and no output
queue is longer. -/
structure State.Alike (s t : State) : Prop where
  lanes : t.lanes = s.lanes
  claims : t.merge.claims = s.merge.claims
  mergeHold : t.merge.mergeHold = s.merge.mergeHold
  transit : t.transit = s.transit
  bins : t.bins = s.bins
  slots : t.table.slots = s.table.slots
  stack : t.table.stack = s.table.stack
  outstanding : t.table.outstanding = s.table.outstanding
  active : t.plans.active = s.plans.active
  count : t.belt.count = s.belt.count
  phase : t.supply.phase = s.supply.phase
  flight : ∀ l, (t.port l).inFlight = (s.port l).inFlight
  queue : ∀ l, (t.port l).outQueue.length ≤ (s.port l).outQueue.length

theorem State.Alike.refl (s : State) : s.Alike s :=
  ⟨rfl, rfl, rfl, rfl, rfl, rfl, rfl, rfl, rfl, rfl, rfl, fun _ => rfl, fun _ => le_rfl⟩

theorem State.Alike.trans {s t u : State} (h : s.Alike t) (h' : t.Alike u) : s.Alike u where
  lanes := h'.lanes.trans h.lanes
  claims := h'.claims.trans h.claims
  mergeHold := h'.mergeHold.trans h.mergeHold
  transit := h'.transit.trans h.transit
  bins := h'.bins.trans h.bins
  slots := h'.slots.trans h.slots
  stack := h'.stack.trans h.stack
  outstanding := h'.outstanding.trans h.outstanding
  active := h'.active.trans h.active
  count := h'.count.trans h.count
  phase := h'.phase.trans h.phase
  flight l := (h'.flight l).trans (h.flight l)
  queue l := (h'.queue l).trans (h.queue l)

section
variable {s t : State} (h : s.Alike t)
include h

theorem State.Alike.lane (k : LaneId) : t.lane k = s.lane k := by rw [State.lane, h.lanes, ← State.lane]
theorem State.Alike.bin (b : BinId) : t.bin b = s.bin b := by rw [State.bin, h.bins, ← State.bin]
theorem State.Alike.slot (i : SlotId) : t.table.slot i = s.table.slot i := by
  rw [VoucherTable.slot, h.slots, ← VoucherTable.slot]
theorem State.Alike.isUp : t.isUp = s.isUp := by rw [State.isUp, h.phase, ← State.isUp]
theorem State.Alike.claimOf (k : LaneId) : t.claimOf k = s.claimOf k := by rw [State.claimOf, h.claims, ← State.claimOf]
theorem State.Alike.corner : t.corner = s.corner := by rw [State.corner, h.active, ← State.corner]
theorem State.Alike.occupancy : t.occupancy = s.occupancy := by rw [State.occupancy, h.transit, ← State.occupancy]

end

/-- A change of one link that leaves its request in flight and does not lengthen its queue. -/
theorem State.alike_setPort {s : State} {l : Link} {p : LinkPort} (hf : p.inFlight = (s.port l).inFlight)
    (hq : p.outQueue.length ≤ (s.port l).outQueue.length) : s.Alike (s.setPort l p) where
  lanes := rfl
  claims := rfl
  mergeHold := rfl
  transit := rfl
  bins := rfl
  slots := rfl
  stack := rfl
  outstanding := rfl
  active := rfl
  count := rfl
  phase := rfl
  flight m := by
    rw [State.port_setPort]
    split
    next hm => rw [hm, hf]
    next => rfl
  queue m := by
    rw [State.port_setPort]
    split
    next hm => rw [hm]; exact hq
    next => exact le_rfl

theorem State.alike_setReceiver (s : State) (l : Link) (r : Receiver) : s.Alike (s.setReceiver l r) :=
  State.alike_setPort rfl le_rfl

theorem State.alike_raise (s : State) (l : Link) (n : Notice) : s.Alike (s.raise l n) :=
  State.alike_setPort rfl le_rfl

theorem State.alike_setPower (s : State) (l : Link) : s.Alike (s.setPower l) :=
  State.alike_setPort rfl le_rfl

/-- A change of indications, of the chute, of the reject chute, of the totals, of the Recognition Unit, of the staged plan and
of the supply state. -/
theorem State.alike_mk (s : State) {belt : BeltControl} {chute : Fin 8} {recog : Recognition} {held : Bool}
    {reject : RejectChute} {serial : Serial} {totals : Totals} {staged : Plan} {supply : SupplyMonitor} {choices : Nat}
    {pending : List Instr} (hcount : belt.count = s.belt.count) (hphase : supply.phase = s.supply.phase) :
    s.Alike { s with
      belt := belt, chute := chute, recog := recog, merge := { s.merge with held := held }, reject := reject
      table := { s.table with serial := serial, totals := totals }, plans := { s.plans with staged := staged }
      supply := supply, choices := choices, pending := pending } :=
  ⟨rfl, rfl, rfl, rfl, rfl, rfl, rfl, rfl, rfl, hcount, hphase, fun _ => rfl, fun _ => le_rfl⟩

theorem State.alike_raiseAllLanes (s : State) : s.Alike s.raiseAllLanes :=
  List.foldlRecOn (motive := s.Alike) laneIds _ (.refl s) fun t ht _ _ => ht.trans (t.alike_raise _ _)

theorem State.alike_reformHeld (s : State) : s.Alike s.reformHeld := by
  unfold State.reformHeld
  split
  · exact .refl s
  · exact (s.alike_mk rfl rfl).trans (State.alike_raiseAllLanes _)

theorem State.alike_reevaluateRunning (s : State) {b : BeltControl} (hb : b.count = s.belt.count) :
    s.Alike (State.reevaluateRunning { s with belt := b }) := by
  have hbelt : s.Alike { s with belt := b } := s.alike_mk hb rfl
  unfold State.reevaluateRunning
  split
  · exact hbelt
  · refine State.Alike.trans ?_ (State.alike_reformHeld _)
    exact hbelt.trans (State.alike_mk _ rfl rfl)

theorem State.alike_evalAtLimit (s : State) : s.Alike s.evalAtLimit := s.alike_mk rfl rfl

theorem State.alike_setTotals (s : State) (t : Totals) : s.Alike (s.setTotals t) := s.alike_mk rfl rfl

theorem State.alike_closeCursor (s : State) : s.Alike s.closeCursor := s.alike_mk rfl rfl

theorem State.alike_handed (s : State) (l : Link) (k : ReqKind) : s.Alike (s.handed l k) := by
  unfold State.handed
  split
  · exact (s.alike_setReceiver l .idle).trans (State.alike_closeCursor _)
  · exact s.alike_setReceiver l .idle

theorem State.alike_stray (s : State) : s.Alike s.stray := by
  have hreject : s.Alike (State.countReject { s with chute := 0 }) := by
    have hcount : s.Alike { s with chute := 0, reject := { s.reject with count := min (s.reject.count + 1) Config.rejectMax } } :=
      s.alike_mk rfl rfl
    exact (hcount.trans (State.alike_evalAtLimit _)).trans (State.alike_reformHeld _)
  exact (hreject.trans (State.alike_setTotals _ _)).trans (State.alike_raise _ _ _)

theorem State.alike_jamAdvance (s : State) : s.Alike s.jamAdvance := by
  unfold State.jamAdvance
  split
  · split
    · exact (s.alike_reevaluateRunning (b := { s.belt with jam := true, watch := none }) rfl).trans
        (State.alike_raise _ _ _)
    · exact .refl s
  · exact .refl s

theorem State.alike_atEdge (s : State) : s.Alike s.atEdge := s.alike_mk rfl rfl

theorem State.alike_trailingEdge (s : State) : s.Alike s.trailingEdge := by
  unfold State.trailingEdge
  split
  · exact s.alike_mk rfl rfl
  · exact .refl s

theorem State.alike_pressEstop (s : State) : s.Alike s.pressEstop :=
  (s.alike_reevaluateRunning (b := { s.belt with estopPressed := true }) rfl).trans (State.alike_raise _ _ _)

theorem State.alike_setBackupFlags (s : State) (low lost : Bool) : s.Alike (s.setBackupFlags low lost) := by
  have hflags : s.Alike { s with supply := { s.supply with backupLow := low, backupLost := lost } } := s.alike_mk rfl rfl
  simp only [State.setBackupFlags]
  split
  · exact hflags.trans (State.alike_raise _ _ _)
  · exact hflags

/-- The supply state with both evaluations (R150, R152). -/
theorem State.alike_setSupplyState (s : State) (x : SupplyState) :
    s.Alike (((s.setSupplyState x).reevaluateRunning).reformHeld) := by
  have hsupply : s.Alike (s.setSupplyState x) := s.alike_mk rfl rfl
  exact (hsupply.trans (State.alike_reevaluateRunning _ rfl)).trans (State.alike_reformHeld _)

theorem State.alike_takeProbe (s : State) (l : Link) : s.Alike (s.takeProbe l) := by
  unfold State.takeProbe
  simp only
  split
  · exact .refl s
  · split <;> exact State.alike_setPort rfl le_rfl

theorem State.alike_frameSent (s : State) (l : Link) : s.Alike (s.setPort l (s.port l).frameSent) := by
  refine State.alike_setPort ?_ ?_ <;> unfold LinkPort.frameSent LinkPort.beginNext
  · split <;> (try split) <;> rfl
  · split <;> (try split) <;> simp

theorem State.alike_statusSent (s : State) (l : Link) : s.Alike (s.setPort l (s.port l).statusSent) := by
  refine State.alike_setPort ?_ ?_ <;> unfold LinkPort.statusSent LinkPort.beginNext
  · split <;> (try split) <;> rfl
  · split <;> (try split) <;> exact le_rfl

/-! ### A pass and the office link -/

@[simp] theorem State.decideClaim_outQueue_office (s : State) (c : Claim) :
    ((s.decideClaim c).port .office).outQueue = (s.port .office).outQueue := by
  unfold State.decideClaim
  split
  · split
    · simp only [State.grant, State.reserve, State.answer_port_ne _ _ (by simp : Link.office ≠ .lane c.lane),
        State.creditTransit_port, State.warnTest_port, State.setBin_port, State.insertRecord_port_office,
        State.dropClaim_port]
      split <;> rfl
    · simp
  · rfl

/-- A pass sends the office nothing. -/
@[simp] theorem State.mergePass_outQueue_office (s : State) :
    (s.mergePass.port .office).outQueue = (s.port .office).outQueue :=
  foldl_keeps (fun t => (t.port .office).outQueue) State.decideClaim State.decideClaim_outQueue_office _ s

/-! ### Presented codes and applied plans -/

/-- A code that passes the tests of R122 presents the voucher of a slot in use. -/
theorem VoucherTable.validate_ok (t : VoucherTable) {c : Byte} {code : List Byte} {p : Presented}
    (h : t.validate c code = .ok p) :
    (t.slot p.slot).used = true ∧ p.voucher.amount = (t.slot p.slot).amount := by
  simp only [VoucherTable.validate] at h
  split at h
  · cases h
  · split at h
    · cases h
    · split at h
      · cases h
      · unfold VoucherTable.find at h
        split at h
        · split at h
          · cases h
          next hslot =>
            split at h
            · cases h
              exact ⟨by rw [hslot]; rfl, by rw [hslot]; rfl⟩
            · cases h
          next hslot =>
            split at h
            · cases h
              exact ⟨by rw [hslot]; rfl, by rw [hslot]; rfl⟩
            · cases h
        · cases h

@[simp] theorem State.applyLane_isUp (s : State) (k : LaneId) : (s.applyLane k).isUp = s.isUp := by
  simp only [State.applyLane]
  split <;> rfl

@[simp] theorem State.applyLane_port_office (s : State) (k : LaneId) :
    (s.applyLane k).port .office = s.port .office := by
  simp only [State.applyLane]
  split
  · rfl
  · exact State.raise_port_ne _ _ (by simp)

@[simp] theorem State.appliedParts_isUp (s : State) : s.appliedParts.isUp = s.isUp :=
  State.appliedParts_keeps (P := fun t => t.isUp = s.isUp) rfl (fun t k ht => (t.applyLane_isUp k).trans ht)
    (fun _ _ ht => ht) fun t b ht => (t.warnTest_isUp b).trans ht

@[simp] theorem State.reevaluated_isUp (s : State) : s.reevaluated.isUp = s.isUp := by simp [State.reevaluated]

@[simp] theorem State.appliedParts_outQueue_office (s : State) :
    (s.appliedParts.port .office).outQueue = (s.port .office).outQueue := by
  refine State.appliedParts_keeps (P := fun t => (t.port .office).outQueue = (s.port .office).outQueue) rfl
    (fun t k ht => ?_) (fun _ _ ht => ht) fun t b ht => ?_
  · rw [State.applyLane_port_office]
    exact ht
  · rw [State.warnTest_port]
    split <;> exact ht

@[simp] theorem State.reevaluated_port_office (s : State) : s.reevaluated.port .office = s.port .office := by
  simp [State.reevaluated]

/-! ### The parts of a step -/

/-- The state in which an OPEN leaves its lane and the stack (R40, R118). -/
def State.sessionOpened (s : State) (k : LaneId) (i : SlotId) (rest : List SlotId) : State :=
  State.setLane { s with table := { s.table with stack := rest } } k
    { Lane.cold with state := .active, slot := some i, parkPending := (s.lane k).parkPending }

/-- The state with a joined claim whose CONTAINER stays in flight (R30, R59). -/
def State.claimJoined (s : State) (k : LaneId) (cls : ClassId) : State :=
  (s.joinClaim (s.newClaim k cls)).keepInFlight (.lane k) .container

/-- A law of which `P` holds where an event finds it and `Q` from its first change on, kept by the parts of every event. -/
structure PartLaw (P Q : State → Prop) : Prop where
  weaken : ∀ {s}, P s → Q s
  alike : ∀ {s t : State}, s.Alike t → P s → P t
  alikeAfter : ∀ {s t : State}, s.Alike t → Q s → Q t
  respond : ∀ {s : State} (l : Link) (r : Response), (s.port l).outQueue.length < 3 → Q s → Q (s.respond l r)
  pass : ∀ {s : State}, s.isUp = true → Q s → Q s.mergePass
  timers : ∀ {s : State}, s.isUp = true → P s → Q s.advanceTimers
  pulse : ∀ {s : State} (order : AdvanceOrder), s.isUp = true → P s → Q (s.pulse order)
  edge : ∀ {s : State}, s.isUp = true → P s → Q s.takeEdge
  pulseWithEdge : ∀ {s : State} (order : AdvanceOrder), s.isUp = true → P s → Q (s.pulseWithEdge order)
  openSession : ∀ {s : State} (k : LaneId) (i : SlotId) (rest : List SlotId), s.isUp = true → (s.lane k).state = .ready →
    s.table.stack = i :: rest → P s → Q (s.sessionOpened k i rest)
  join : ∀ {s : State} (k : LaneId) (rep : Report) (cls : ClassId), s.isUp = true →
    (s.port (.lane k)).inFlight = none → (s.port (.lane k)).outQueue.length < 3 → (s.lane k).state = .active →
    s.classify k rep = .ok cls → P s → Q (s.claimJoined k cls)
  refuseClaim : ∀ {s : State} (k : LaneId) (reason : Reason), s.isUp = true →
    ((s.claimOf k).isSome = true ∨ (s.port (.lane k)).inFlight = some .container) → P s → Q (s.refuseClaim k reason)
  endAtOnce : ∀ {s : State} (k : LaneId), s.isUp = true → (s.port (.lane k)).inFlight = none →
    (s.port (.lane k)).outQueue.length < 3 → (s.lane k).state = .active → (s.lane k).transitCount = 0 → P s →
    Q ((s.keepInFlight (.lane k) .endSession).ordinaryClose k)
  beginSettling : ∀ {s : State} (k : LaneId), s.isUp = true → (s.port (.lane k)).inFlight = none →
    (s.port (.lane k)).outQueue.length < 3 → (s.lane k).state = .active → (s.lane k).transitCount ≠ 0 → P s →
    Q (s.beginSettling k)
  limitClose : ∀ {s : State} (k : LaneId), s.isUp = true → (s.lane k).state = .settling → P s → Q (s.limitClose k)
  rewrite : ∀ {s : State} (i : SlotId) (x : VoucherSlot), (s.table.slot i).used = true → x.used = true →
    x.amount = (s.table.slot i).amount → P s → Q (s.setTable (s.table.setSlot i x))
  remove : ∀ {s : State} (i : SlotId) (v : Voucher), (s.table.slot i).used = true → v.amount = (s.table.slot i).amount →
    P s → Q (s.setTable (s.table.remove i v))
  release : ∀ {s : State} (b : BinId) (st : BinState), s.isUp = true → (s.bin b).releasedState = some st → P s →
    Q (s.setBin b { s.bin b with state := st })
  returnBin : ∀ {s : State} (b : BinId), s.isUp = true → (s.bin b).state = .released → P s →
    Q (s.setBin b { s.bin b with state := .serving, confirmed := 0, items := 0, warn := false })
  apply : ∀ {s : State}, s.isUp = true → firstFailing s.planChecks = none → P s → Q s.appliedParts.reevaluated
  holdUpLane : ∀ {s : State} (k : LaneId), s.isUp = true → Q s → Q (s.holdUpLane k)
  parkModes : ∀ {s : State}, s.isUp = true → Q s → Q { s with plans := { s.plans with active := s.plans.active.parkModes } }
  lose : ∀ {s : State} (p : Phase), p ≠ .running → P s → Q (s.loseVolatile.setPhase p)
  cut : ∀ {s : State} (n : Nat), P s → Q ((s.loseVolatile.recoverLanes n).setPhase .supplyLost)
  warm : ∀ {s : State} (cause : ResetCause) (lines : StartLines), P s → Q (s.warmWork.finishStart cause lines)
  cold : ∀ {s : State} (lines : StartLines), P s → Q (s.coldWork.finishStart .cold lines)

namespace PartLaw

variable {P Q : State → Prop} (L : PartLaw P Q)
include L

theorem passIfReleased {t : State} (hup : t.isUp = true) (h : Q t) (s : State) : Q (t.passIfReleased s) := by
  unfold State.passIfReleased
  split
  · exact L.pass hup h
  · exact h

/-- An event that ends in indications of the state it found. -/
theorem ofAlike {s t : State} (h : s.Alike t) (hP : P s) : Q t := L.weaken (L.alike h hP)

/-- A request that is answered and changes nothing of the law. -/
theorem responds {s t : State} {l : Link} (r : Response) (h : s.Alike t) (hq : (s.port l).outQueue.length < 3)
    (hP : P s) : Q (t.respond l r) :=
  L.respond l r (lt_of_le_of_lt (h.queue l) hq) (L.ofAlike h hP)

/-- A change of Belt Control is reported, answered, and may release a hold (R6, R13). -/
theorem answersBelt {s : State} {b : BeltControl} (hb : b.count = s.belt.count) (r : Response) (hup : s.isUp = true)
    (hq : (s.port .office).outQueue.length < 3) (hP : P s) :
    Q (((State.reevaluateRunning { s with belt := b }).respondOffice r).passIfReleased s) := by
  have halike := s.alike_reevaluateRunning hb
  refine L.passIfReleased ?_ (L.responds r halike hq hP) s
  simpa [State.respondOffice] using halike.isUp.trans hup

theorem enterHoldUp {s : State} (hup : s.isUp = true) (h : Q s) : Q s.enterHoldUp := by
  have halike := s.alike_setSupplyState .holdUp
  have hclosed : ∀ ks : List LaneId, ∀ t : State, t.isUp = true ∧ Q t →
      (ks.foldl State.holdUpLane t).isUp = true ∧ Q (ks.foldl State.holdUpLane t) := by
    intro ks t ht
    refine foldl_lanes_keeps (P := fun t => t.isUp = true ∧ Q t) (fun u k hu => ⟨?_, L.holdUpLane k hu.1 hu.2⟩) ht ks
    have hkept : (u.holdUpLane k).isUp = u.isUp := by
      unfold State.holdUpLane
      split <;> (try split) <;> simp
    exact hkept.trans hu.1
  obtain ⟨hup', hQ⟩ := hclosed laneIds _ ⟨halike.isUp.trans hup, L.alikeAfter halike h⟩
  have hparked := L.parkModes hup' hQ
  have hpowered := List.foldlRecOn (motive := Q) links State.setPower hparked
    fun t ht l _ => L.alikeAfter (t.alike_setPower l) ht
  exact L.alikeAfter (State.alike_raise _ _ _) hpowered

/-! Each request, by the link that takes it. -/

theorem laneRequest {s : State} {j : LaneId} {k : ReqKind} {take : State → State} (hr : Request (.lane j) k take)
    (hup : s.isUp = true) (hq : (s.port (.lane j)).outQueue.length < 3)
    (hb : (s.port (.lane j)).passesBusy k = true) (hP : P s) : Q (take s) := by
  have hanswer : ∀ r, Q (s.respond (.lane j) r) := fun r => L.responds r (.refl s) hq hP
  cases hr with
  | openSession =>
    unfold takeOpen
    split
    next hst =>
      split
      next i rest hstack => exact L.respond _ _ (by simpa using hq) (L.openSession j i rest hup hst hstack hP)
      next => exact hanswer _
    next => exact hanswer _
  | container r =>
    have hidle : (s.port (.lane j)).inFlight = none := by simpa [LinkPort.passesBusy] using hb
    unfold takeContainer
    split
    · exact hanswer _
    next rep _ =>
      split
      next hst =>
        split
        · exact hanswer _
        next cls hcls => exact L.pass (s := s.claimJoined j cls) hup (L.join j rep cls hup hidle hq hst hcls hP)
      next => exact hanswer _
  | endSession =>
    have hidle : (s.port (.lane j)).inFlight = none := by simpa [LinkPort.passesBusy] using hb
    unfold takeEnd
    split
    next hst =>
      split
      next hcount => exact L.endAtOnce j hup hidle hq hst hcount hP
      next hcount => exact L.beginSettling j hup hidle hq hst hcount hP
    next => exact hanswer _
  | cancel =>
    unfold takeCancel
    split
    next hflight => exact L.refuseClaim j .cancelled hup (.inr hflight) hP
    next => exact hanswer _
    next => exact hanswer _
  | laneQuery => exact hanswer _

theorem checkoutRequest {s : State} {k : ReqKind} {take : State → State} (hr : Request .checkout k take)
    (hq : (s.port .checkout).outQueue.length < 3) (hP : P s) : Q (take s) := by
  have hanswer : ∀ r, Q (s.respond .checkout r) := fun r => L.responds r (.refl s) hq hP
  cases hr with
  | claim c code =>
    unfold takeClaim
    split
    · exact hanswer _
    next p hp =>
      obtain ⟨hused, hamount⟩ := s.table.validate_ok hp
      split
      · exact L.respond _ _ hq (L.rewrite p.slot (.claimed p.voucher p.checkout 0) hused rfl hamount hP)
      · exact hanswer _
  | redeem c code =>
    unfold takeRedeem
    split
    · exact hanswer _
    next p hp =>
      obtain ⟨hused, hamount⟩ := s.table.validate_ok hp
      split
      · exact hanswer _
      · split
        · exact L.respond _ _ hq (L.alikeAfter (State.alike_setTotals _ _) (L.remove p.slot p.voucher hused hamount hP))
        · exact hanswer _
  | unclaim c code =>
    unfold takeUnclaim
    split
    · exact hanswer _
    next p hp =>
      obtain ⟨hused, hamount⟩ := s.table.validate_ok hp
      split
      · exact hanswer _
      · split
        · exact L.respond _ _ hq (L.rewrite p.slot (.issued p.voucher) hused rfl hamount hP)
        · exact hanswer _

theorem officeRequest {s : State} {k : ReqKind} {take : State → State} (hr : Request .office k take)
    (hup : s.isUp = true) (hq : (s.port .office).outQueue.length < 3) (hP : P s) : Q (take s) := by
  have hanswer : ∀ r, Q (s.respond .office r) := fun r => L.responds r (.refl s) hq hP
  cases hr with
  | cornerStatus => exact hanswer _
  | beltEnable => exact L.answersBelt (b := { s.belt with enable := true }) rfl _ hup hq hP
  | beltStop => exact L.answersBelt (b := { s.belt with enable := false }) rfl _ hup hq hP
  | jamClear =>
    unfold takeJamClear
    split
    · exact hanswer _
    · exact L.answersBelt (b := { s.belt with jam := false }) rfl _ hup hq hP
  | recogWrite i e k m c =>
    unfold takeRecogWrite
    split
    · exact L.responds _ (s.alike_mk rfl rfl) hq hP
    · exact hanswer _
  | recogRead i =>
    unfold takeRecogRead
    split <;> exact hanswer _
  | tariffBegin c =>
    unfold takeTariffBegin
    split
    · exact L.responds _ (s.alike_mk rfl rfl) hq hP
    · exact hanswer _
  | tariffData bytes =>
    unfold takeTariffData
    split
    · exact hanswer _
    · exact L.responds _ (s.alike_mk rfl rfl) hq hP
  | tariffRead c =>
    unfold takeTariffRead
    split <;> exact hanswer _
  | binRelease x =>
    unfold takeBinRelease
    split
    · exact hanswer _
    next b _ =>
      split
      · exact hanswer _
      next st hst => exact L.pass hup (L.respond _ _ hq (L.release b st hup hst hP))
  | binReturn x =>
    unfold takeBinReturn
    split
    · exact hanswer _
    next b _ =>
      split
      next hst => exact L.pass hup (L.respond _ _ hq (L.returnBin b hup hst hP))
      next => exact hanswer _
  | binRead x =>
    unfold takeBinRead
    split
    · exact hanswer _
    · split <;> exact hanswer _
  | rejectClear =>
    have hzero : s.Alike { s with reject := { s.reject with count := 0 } } := s.alike_mk rfl rfl
    have halike := (hzero.trans (State.alike_evalAtLimit _)).trans (State.alike_reformHeld _)
    refine L.passIfReleased ?_ (L.responds _ halike hq hP) s
    exact halike.isUp.trans hup
  | voucherRead i =>
    unfold takeVoucherRead
    split <;> exact hanswer _
  | voucherVoid i n =>
    unfold takeVoucherVoid
    split
    · exact hanswer _
    next j _ =>
      split
      · exact hanswer _
      next v hv =>
        split
        · exact L.respond _ _ hq (L.alikeAfter (State.alike_setTotals _ _)
            (L.remove j v (by rw [hv]; rfl) (by rw [hv]; rfl) hP))
        · exact hanswer _
      · exact hanswer _
  | planStage i f =>
    unfold takePlanStage
    split
    · exact hanswer _
    · split
      · exact L.responds _ (s.alike_mk rfl rfl) hq hP
      · exact hanswer _
    · split
      · exact L.responds _ (s.alike_mk rfl rfl) hq hP
      · exact hanswer _
    · split
      · exact L.responds _ (s.alike_mk rfl rfl) hq hP
      · exact hanswer _
  | planRead p i =>
    unfold takePlanRead
    split <;> exact hanswer _
  | planApply =>
    unfold takePlanApply
    split
    · exact hanswer _
    next hchecks =>
      have happlied := L.apply hup hchecks hP
      have hup' : s.appliedParts.reevaluated.isUp = true := by simpa using hup
      have hq' : (s.applyPlan.port .office).outQueue.length < 3 := by
        rw [State.applyPlan_eq, State.mergePass_outQueue_office]
        simpa using hq
      exact L.respond _ _ hq' (L.pass hup' happlied)
  | totalsRead => exact hanswer _
  | periodClose => exact L.responds _ (State.alike_setTotals s .zero) hq hP

theorem request {s : State} {l : Link} {k : ReqKind} {take : State → State} (hr : Request l k take) (hup : s.isUp = true)
    (hq : (s.port l).outQueue.length < 3) (hb : (s.port l).passesBusy k = true) (hP : P s) :
    Q (take (s.handed l k)) := by
  have halike := s.alike_handed l k
  have hup' := halike.isUp.trans hup
  have hq' := lt_of_le_of_lt (halike.queue l) hq
  have hP' := L.alike halike hP
  cases l with
  | lane j =>
    have hb' : ((s.handed (.lane j) k).port (.lane j)).passesBusy k = true := by
      rw [LinkPort.passesBusy, halike.flight, ← LinkPort.passesBusy]
      exact hb
    exact L.laneRequest hr hup' hq' hb' hP'
  | checkout => exact L.checkoutRequest hr hq' hP'
  | office => exact L.officeRequest hr hup' hq' hP'

/-- A law that every part keeps is kept by every event. -/
theorem event {s t : State} (e : Event s t) (hP : P s) : Q t := by
  cases e with
  | nothing => exact L.weaken hP
  | timebase n q hup => exact L.alikeAfter (State.alike_mk _ rfl rfl) (L.timers hup hP)
  | pulse order hup => exact L.pulse order hup hP
  | edge hup heye => exact L.edge hup hP
  | pulseWithEdge order hup heye => exact L.pulseWithEdge order hup hP
  | trailingEdge hup => exact L.ofAlike s.alike_trailingEdge hP
  | pressEstop hup => exact L.ofAlike s.alike_pressEstop hP
  | releaseEstop hup =>
    have halike := s.alike_reevaluateRunning (b := { s.belt with estopPressed := false }) rfl
    exact L.passIfReleased (halike.isUp.trans hup) (L.ofAlike halike hP) s
  | enterHoldUp hup => exact L.enterHoldUp hup (L.weaken hP)
  | endHoldUp hup =>
    unfold State.endHoldUp
    split
    · have halike := (s.alike_setSupplyState .normal).trans (State.alike_raise _ .office .supply)
      exact L.passIfReleased (halike.isUp.trans hup) (L.ofAlike halike hP) s
    · exact L.weaken hP
  | backupFlags low lost hup => exact L.ofAlike (s.alike_setBackupFlags low lost) hP
  | assertReset =>
    unfold State.assertReset
    split <;> exact L.lose _ (by decide) hP
  | loseSupply b => exact L.alikeAfter (State.alike_mk _ rfl rfl) (L.lose .supplyLost (by decide) hP)
  | fullStart o lines =>
    have hstarted : ∀ marker : Bool, ∃ t : State, t.isUp = true ∧ Q t ∧
        (if marker then s.warmWork.finishStart (warmCause (s.startOrigin o)) lines
          else s.coldWork.finishStart .cold lines) = t := by
      intro marker
      cases marker
      · exact ⟨_, rfl, L.cold lines hP, rfl⟩
      · exact ⟨_, rfl, L.warm _ lines hP, rfl⟩
    obtain ⟨t, hup, hQ, ht⟩ := hstarted s.supply.marker
    simp only [State.fullStart, ht]
    split
    · exact L.enterHoldUp hup hQ
    · exact hQ
  | cutStart n =>
    simp only [State.cutStart]
    split
    · exact L.cut n hP
    · exact L.lose .supplyLost (by decide) hP
  | settleExpiry k hup hst => exact L.limitClose k hup hst hP
  | claimExpiry k hup hc => exact L.refuseClaim k .noSlot hup (.inl hc) hP
  | lapse i hup =>
    unfold State.expireLapse
    split
    next v c e hslot =>
      exact L.alikeAfter (State.alike_raise _ _ _)
        (L.rewrite i (.issued v) (by rw [hslot]; rfl) rfl (by rw [hslot]; rfl) hP)
    next => exact L.weaken hP
  | receiver l r hup => exact L.ofAlike (s.alike_setReceiver l r) hP
  | probe l hup => exact L.ofAlike (s.alike_takeProbe l) hP
  | frameSent l hup => exact L.ofAlike (s.alike_frameSent l) hP
  | statusSent l hup => exact L.ofAlike (s.alike_statusSent l) hP
  | frameRefused l r hup hq => exact L.responds r (s.alike_setReceiver l .idle) hq hP
  | powerRefused l k hup hq => exact L.responds _ (s.alike_handed l k) hq hP
  | request hr hup hq hb hn => exact L.request hr hup hq hb hP

/-- A law that every part keeps is kept by every step. -/
theorem step {s t : State} (h : step s = .next t) (hP : P s) : Q t := by
  obtain ⟨q, hevent⟩ := step_event h
  exact L.event hevent (L.alike (s.alike_mk rfl rfl) hP)

end PartLaw

end Sys2Proof.Machine
end

section
/-! What a grant, a close, a match and a missing declaration do to the lanes, the claims and the records; the gate's part of a
law; and the law of the status bytes (R48, R54, R160, R172). -/

namespace Sys2Proof.Machine

/-! ### Grants -/

theorem State.grant_lane (s : State) (c : Claim) (b : BinId) (j : LaneId) :
    (s.grant c b).lane j =
      if j = c.lane then
        { s.lane c.lane with
          transitCredit := (s.lane c.lane).transitCredit + c.deposit
          transitCount := (s.lane c.lane).transitCount + 1 }
      else s.lane j := by
  simp [State.grant, State.creditTransit, State.lane_setLane]

@[simp] theorem State.grant_claims (s : State) (c : Claim) (b : BinId) :
    (s.grant c b).merge.claims = s.merge.claims.filter fun d => !(d.lane == c.lane) := by
  simp [State.grant, State.insertRecord]

@[simp] theorem State.grant_transit (s : State) (c : Claim) (b : BinId) :
    (s.grant c b).transit = insertByDue s.belt.count (s.grantedRecord c b) s.transit := by
  simp [State.grant, State.insertRecord]

theorem State.grant_bin (s : State) (c : Claim) (b a : BinId) :
    (s.grant c b).bin a =
      if a = b then
        { s.bin b with
          reserved := (s.bin b).reserved + compactedVolume c.volume (s.bin b).ratio
          warn := (s.bin b).warn || decide ((s.bin b).warningMark ≤
            (s.bin b).confirmed + (s.bin b).reserved + compactedVolume c.volume (s.bin b).ratio) }
      else s.bin a := by
  simp [State.grant, State.creditTransit, State.reserve_bin, State.grantedRecord]

/-! ### Resolutions, up to the session they may end -/

/-- A match up to its part in a session: the queue without its head, the chute select and the confirmed fill (R86, R90). -/
def State.headConfirmed (s : State) (r : TransitRecord) (rest : List TransitRecord) : State :=
  State.confirmFill { s.removeHead rest with chute := ⟨chuteOf r.bin, by unfold chuteOf; omega⟩ } r.bin r.volume

/-- A missing declaration up to its part in a session: the queue without its head and the released reservation (R87, R91). -/
def State.headReleased (s : State) (r : TransitRecord) (rest : List TransitRecord) : State :=
  (s.removeHead rest).releaseFill r.bin r.volume

theorem State.matchHead_eq (s : State) (r : TransitRecord) (rest : List TransitRecord) :
    s.matchHead r rest =
      let t := (s.headConfirmed r rest).confirmCredit r
      t.setTotals { t.table.totals with confirmed := satAdd t.table.totals.confirmed 1 } := rfl

theorem State.missHead_eq (s : State) (r : TransitRecord) (rest : List TransitRecord) :
    s.missHead r rest =
      let t := (s.headReleased r rest).loseCredit r
      t.setTotals { t.table.totals with missing := satAdd t.table.totals.missing 1 } := rfl

section
variable (s : State) (r : TransitRecord) (rest : List TransitRecord)

@[simp] theorem State.headConfirmed_lanes : (s.headConfirmed r rest).lanes = s.lanes := by simp [State.headConfirmed]
@[simp] theorem State.headReleased_lanes : (s.headReleased r rest).lanes = s.lanes := by simp [State.headReleased]
@[simp] theorem State.headConfirmed_lane (k : LaneId) : (s.headConfirmed r rest).lane k = s.lane k := by
  simp [State.headConfirmed]
@[simp] theorem State.headReleased_lane (k : LaneId) : (s.headReleased r rest).lane k = s.lane k := by
  simp [State.headReleased]
@[simp] theorem State.headConfirmed_table : (s.headConfirmed r rest).table = s.table := by simp [State.headConfirmed]
@[simp] theorem State.headReleased_table : (s.headReleased r rest).table = s.table := by simp [State.headReleased]
@[simp] theorem State.headConfirmed_transit : (s.headConfirmed r rest).transit = rest := by simp [State.headConfirmed]
@[simp] theorem State.headReleased_transit : (s.headReleased r rest).transit = rest := by simp [State.headReleased]
@[simp] theorem State.headConfirmed_isUp : (s.headConfirmed r rest).isUp = s.isUp := by simp [State.headConfirmed]
@[simp] theorem State.headReleased_isUp : (s.headReleased r rest).isUp = s.isUp := by simp [State.headReleased]
@[simp] theorem State.headConfirmed_merge : (s.headConfirmed r rest).merge = (s.removeHead rest).merge := by
  simp [State.headConfirmed]
@[simp] theorem State.headReleased_merge : (s.headReleased r rest).merge = (s.removeHead rest).merge := by
  simp [State.headReleased]
@[simp] theorem State.headConfirmed_plans : (s.headConfirmed r rest).plans = s.plans := by simp [State.headConfirmed]
@[simp] theorem State.headReleased_plans : (s.headReleased r rest).plans = s.plans := by simp [State.headReleased]
@[simp] theorem State.headConfirmed_belt : (s.headConfirmed r rest).belt = s.belt := by simp [State.headConfirmed]
@[simp] theorem State.headReleased_belt : (s.headReleased r rest).belt = s.belt := by simp [State.headReleased]

theorem State.headConfirmed_bin (a : BinId) :
    (s.headConfirmed r rest).bin a =
      if a = r.bin then
        { s.bin r.bin with
          reserved := (s.bin r.bin).reserved - r.volume, confirmed := (s.bin r.bin).confirmed + r.volume
          items := min ((s.bin r.bin).items + 1) Config.itemMax
          state := (s.bin r.bin).drained ((s.bin r.bin).reserved - r.volume) }
      else s.bin a := by
  simp [State.headConfirmed, State.confirmFill_bin]

theorem State.headReleased_bin (a : BinId) :
    (s.headReleased r rest).bin a =
      if a = r.bin then
        { s.bin r.bin with
          reserved := (s.bin r.bin).reserved - r.volume
          state := (s.bin r.bin).drained ((s.bin r.bin).reserved - r.volume) }
      else s.bin a := by
  simp [State.headReleased, State.releaseFill_bin]

end

/-! ### The gate's part of a law -/

/-- A law that a pass and the two resolutions of a head keep. -/
structure GateLaw (Q : State → Prop) : Prop where
  alike : ∀ {s t : State}, s.Alike t → Q s → Q t
  pass : ∀ {s : State}, s.isUp = true → Q s → Q s.mergePass
  matchHead : ∀ {s : State} {r : TransitRecord} {rest : List TransitRecord}, s.isUp = true → s.transit = r :: rest → Q s →
    Q (s.matchHead r rest)
  missHead : ∀ {s : State} {r : TransitRecord} {rest : List TransitRecord}, s.isUp = true → s.transit = r :: rest → Q s →
    Q (s.missHead r rest)

namespace GateLaw

variable {Q : State → Prop} (G : GateLaw Q)
include G

theorem decideAgain {s : State} (hup : s.isUp = true) (h : Q s) (e : Count) : Q (s.decideAgain e) := by
  have hstray : Q s.stray.mergePass := G.pass (s.alike_stray.isUp.trans hup) (G.alike s.alike_stray h)
  unfold State.decideAgain
  split
  · exact hstray
  next r rest hhead =>
    split
    · exact G.pass (by simpa using hup) (G.pass (by simpa using hup) (G.matchHead hup hhead h))
    · exact hstray

theorem decideEdge {s : State} (hup : s.isUp = true) (h : Q s) (e : Count) : Q (s.decideEdge e) := by
  have hstray : Q s.stray := G.alike s.alike_stray h
  unfold State.decideEdge
  split
  · exact hstray
  next r rest hhead =>
    split
    · exact hstray
    · exact G.pass (by simpa using hup) (G.matchHead hup hhead h)
    · exact G.decideAgain (by simpa using hup) (G.missHead hup hhead h) e
    · exact G.decideAgain (by simpa using hup) (G.missHead hup hhead h) e

theorem takeEdge {s : State} (hup : s.isUp = true) (h : Q s) : Q s.takeEdge :=
  G.decideEdge (s := s.atEdge) hup (G.alike s.alike_atEdge h) _

theorem gateAdvance {s : State} (hup : s.isUp = true) (h : Q s) : Q s.gateAdvance := by
  unfold State.gateAdvance
  split
  · exact h
  next r rest hhead =>
    split
    · exact G.pass (by simpa using hup) (G.missHead hup hhead h)
    · exact h

theorem pulse {s : State} (hup : s.isUp = true) (h : Q s.advanceCount) (order : AdvanceOrder) : Q (s.pulse order) := by
  refine (State.pulse_keeps (P := fun t => t.isUp = true ∧ Q t) ⟨hup, h⟩ ?_ ?_ ?_ order).2
  · exact fun t ⟨hup, h⟩ => ⟨by simpa using hup, G.alike t.alike_jamAdvance h⟩
  · exact fun t ⟨hup, h⟩ => ⟨by simpa using hup, G.gateAdvance hup h⟩
  · exact fun t ⟨hup, h⟩ => ⟨by simpa using hup, G.pass hup h⟩

theorem pulseWithEdge {s : State} (hup : s.isUp = true) (h : Q s.advanceCount) (order : AdvanceOrder) :
    Q (s.pulseWithEdge order) := by
  refine (State.pulseWithEdge_keeps (P := fun t => t.isUp = true ∧ Q t) ⟨hup, h⟩ ?_ ?_ ?_ ?_ order).2
  · exact fun t ⟨hup, h⟩ => ⟨by simpa using hup, G.alike t.alike_jamAdvance h⟩
  · exact fun t ⟨hup, h⟩ => ⟨by simpa using hup, G.takeEdge hup h⟩
  · exact fun t ⟨hup, h⟩ => ⟨by simpa using hup, G.gateAdvance hup h⟩
  · exact fun t ⟨hup, h⟩ => ⟨by simpa using hup, G.pass hup h⟩

end GateLaw

/-! ### Park-pending and the settle timer (R48, R54) -/

/-- Park-pending only within a session, and a settle timer exactly in SETTLING. -/
def Lane.Tidy (l : Lane) : Prop :=
  (l.parkPending = true → l.state.inSession = true) ∧ l.settle.isSome = (l.state == .settling)

/-- The lane laws of R48 and R54. -/
def State.LanesTidy (s : State) : Prop := ∀ k, (s.lane k).Tidy

theorem State.lanesTidy_iff {s : State} : s.LanesTidy ↔ s.ParkPendingInSession ∧ s.SettleTimersRun :=
  ⟨fun h => ⟨fun k => (h k).1, fun k => (h k).2⟩, fun h k => ⟨h.1 k, h.2 k⟩⟩

theorem Lane.tidy_cold : Lane.cold.Tidy := ⟨fun h => (nomatch h), rfl⟩

theorem Lane.tidy_afterClose (parks : Bool) (c : CloseRecord) : (Lane.afterClose parks c).Tidy := by
  cases parks <;> exact ⟨fun h => (nomatch h), rfl⟩

theorem Lane.tidy_retained (l : Lane) : l.retained.Tidy := ⟨fun h => (nomatch h), rfl⟩

/-- The money of a lane is no part of the law. -/
theorem Lane.Tidy.congr {l m : Lane} (h : l.Tidy) (hs : m.state = l.state) (hp : m.parkPending = l.parkPending)
    (ht : m.settle.isSome = l.settle.isSome) : m.Tidy := by
  unfold Lane.Tidy
  rw [hs, hp, ht]
  exact h

theorem Lane.Tidy.atApply {l : Lane} (h : l.Tidy) (mode : LaneMode) : (l.atApply mode).Tidy := by
  obtain ⟨hpark, hsettle⟩ := h
  cases hst : l.state <;> cases mode <;>
    simp_all [Lane.Tidy, Lane.atApply, LaneState.inSession]

/-- The law reads the lanes alone. -/
theorem State.LanesTidy.congr {s t : State} (h : s.LanesTidy) (hl : t.lanes = s.lanes) : t.LanesTidy := by
  intro k
  rw [State.lane, hl]
  exact h k

theorem State.LanesTidy.setLane {s : State} (h : s.LanesTidy) {k : LaneId} {x : Lane} (hx : x.Tidy) :
    (s.setLane k x).LanesTidy := by
  intro j
  rw [State.lane_setLane]
  split
  · exact hx
  · exact h j

theorem State.LanesTidy.raise {s : State} (h : s.LanesTidy) (l : Link) (n : Notice) : (s.raise l n).LanesTidy := h

theorem State.LanesTidy.closeSession {s : State} (h : s.LanesTidy) (k : LaneId) (power : Bool) :
    (s.closeSession k power).LanesTidy := by
  intro j
  rw [State.closeSession_lane]
  split
  · exact Lane.tidy_afterClose _ _
  · exact h j

theorem State.LanesTidy.ordinaryClose {s : State} (h : s.LanesTidy) (k : LaneId) : (s.ordinaryClose k).LanesTidy :=
  have hfigures : Lane.Tidy { s.lane k with unconfirmedCredit := 0, unconfirmedCount := 0 } := (h k).congr rfl rfl rfl
  (h.setLane hfigures).closeSession k false

theorem State.LanesTidy.countUnconfirmed {s : State} (h : s.LanesTidy) (k : LaneId) : (s.countUnconfirmed k).LanesTidy :=
  h.setLane ((h k).congr rfl rfl rfl)

theorem State.LanesTidy.closeIfSettled {s : State} (h : s.LanesTidy) (k : LaneId) : (s.closeIfSettled k).LanesTidy := by
  unfold State.closeIfSettled
  split
  · exact h.ordinaryClose k
  · exact h

theorem State.LanesTidy.decideClaim {s : State} (h : s.LanesTidy) (c : Claim) : (s.decideClaim c).LanesTidy := by
  unfold State.decideClaim
  split
  · split
    · intro j
      rw [State.grant_lane]
      split
      · exact (h c.lane).congr rfl rfl rfl
      · exact h j
    · exact h
  · exact h

theorem State.LanesTidy.holdUpLane {s : State} (h : s.LanesTidy) (k : LaneId) : (s.holdUpLane k).LanesTidy := by
  unfold State.holdUpLane
  split
  · split
    · exact (State.LanesTidy.countUnconfirmed (s := s.refuseClaim k .power) h k).closeSession k true
    · exact (h.countUnconfirmed k).closeSession k true
  · exact (h.countUnconfirmed k).closeSession k true
  · refine State.LanesTidy.setLane (s := s) h ⟨fun hp => (nomatch hp), ?_⟩
    have hst := (h k).2
    simp_all
  · exact h

theorem State.lanesTidy_loseVolatile (s : State) : s.loseVolatile.LanesTidy := by
  intro k
  have hlane : s.loseVolatile.lane k = (s.lane k).retained := getElem_mapAll _ _ _ _
  rw [hlane]
  exact Lane.tidy_retained _

theorem State.LanesTidy.recoverLanes {s : State} (h : s.LanesTidy) (n : Nat) : (s.recoverLanes n).LanesTidy := by
  refine foldl_lanes_keeps (fun t k ht => ?_) (by exact h) _
  simp only [State.recoverLane]
  split <;> exact State.LanesTidy.setLane (s := t) ht Lane.tidy_cold

theorem lanesTidy_gate : GateLaw State.LanesTidy where
  alike h hs k := by rw [h.lane]; exact hs k
  pass _ h := List.foldlRecOn _ State.decideClaim h fun _ ht c _ => ht.decideClaim c
  matchHead {s r rest} _ _ h := by
    rw [State.matchHead_eq]
    refine State.LanesTidy.congr (s := (s.headConfirmed r rest).confirmCredit r) ?_ rfl
    have hconfirmed : (s.headConfirmed r rest).LanesTidy := h.congr (by simp)
    unfold State.confirmCredit
    split
    · refine State.LanesTidy.closeIfSettled (State.LanesTidy.setLane hconfirmed ?_) _
      exact (hconfirmed r.lane).congr rfl rfl rfl
    · exact hconfirmed
  missHead {s r rest} _ _ h := by
    rw [State.missHead_eq]
    refine State.LanesTidy.congr (s := (s.headReleased r rest).loseCredit r) ?_ rfl
    have hreleased : (s.headReleased r rest).LanesTidy := h.congr (by simp)
    unfold State.loseCredit
    split
    · refine State.LanesTidy.closeIfSettled (State.LanesTidy.raise (State.LanesTidy.setLane hreleased ?_) _ _) _
      exact (hreleased r.lane).congr rfl rfl rfl
    · exact hreleased.congr rfl

theorem lanesTidy_law : PartLaw State.LanesTidy State.LanesTidy where
  weaken := id
  alike := lanesTidy_gate.alike
  alikeAfter := lanesTidy_gate.alike
  respond _ _ _ h := h
  pass := lanesTidy_gate.pass
  timers _ h k := by
    rw [State.advanceTimers_lane]
    exact (h k).congr rfl rfl (by simp [Lane.tick])
  pulse order hup h := lanesTidy_gate.pulse hup h order
  edge := lanesTidy_gate.takeEdge
  pulseWithEdge order hup h := lanesTidy_gate.pulseWithEdge hup h order
  openSession {s} k i rest _ hst _ h := State.LanesTidy.setLane (s := s) h ⟨fun _ => rfl, rfl⟩
  join _ _ _ _ _ _ _ _ h := h
  refuseClaim _ _ _ _ h := h
  endAtOnce {s} k _ _ _ _ _ h := State.LanesTidy.ordinaryClose (s := s.keepInFlight _ _) h k
  beginSettling {s} k _ _ _ hst _ h := State.LanesTidy.setLane (s := s) h ⟨fun _ => rfl, rfl⟩
  limitClose k _ _ h := (h.countUnconfirmed k).closeSession k false
  rewrite _ _ _ _ _ h := h
  remove _ _ _ _ h := h
  release _ _ _ _ h := h
  returnBin _ _ _ h := h
  apply {s} _ _ h := by
    have hparts : s.appliedParts.LanesTidy := by
      refine State.appliedParts_keeps (P := State.LanesTidy) h (fun t k ht => ?_) (fun t b ht => ht.congr rfl)
        fun t b ht => ht.congr (by simp)
      simp only [State.applyLane]
      split
      · exact ht.setLane ((ht k).atApply _)
      · exact State.LanesTidy.congr (ht.setLane ((ht k).atApply _)) rfl
    exact hparts.congr (by simp [State.reevaluated])
  holdUpLane k _ h := h.holdUpLane k
  parkModes _ h := h
  lose {s} p _ _ := s.lanesTidy_loseVolatile
  cut {s} n _ := s.lanesTidy_loseVolatile.recoverLanes n
  warm {s} cause lines _ := s.lanesTidy_loseVolatile.recoverLanes 4
  cold {s} lines _ := fun k => by
    have hcold : (s.coldWork.finishStart .cold lines).lane k = Lane.cold := by
      simp [State.coldWork, State.finishStart, State.reset, State.lane]
    rw [hcold]
    exact Lane.tidy_cold

/-- No status byte is SYNC (R160, R172): that of the checkout and of the office has bit 6, and that of a lane would be a
PARKED lane with park-pending. -/
theorem State.statusByte_ne_sync {s : State} (h : s.LanesTidy) (l : Link) : s.statusByte l ≠ 0xA5 := by
  intro heq
  cases l with
  | lane k =>
    obtain ⟨h0, h1, h2, _⟩ := laneStatus_bits (s.lane k) s.merge.held (s.port (.lane k))
    have hbyte : laneStatus (s.lane k) s.merge.held (s.port (.lane k)) = 0xA5 := heq
    rw [hbyte] at h0 h1 h2
    have hsession := (h k).1 h2.symm
    cases hst : (s.lane k).state <;> simp [hst, LaneState.inSession] at h0 h1 hsession
  | checkout =>
    obtain ⟨_, _, _, _, _, _, h6, _⟩ := checkoutStatus_bits (s.port .checkout)
    have hbyte : checkoutStatus (s.port .checkout) = 0xA5 := heq
    rw [hbyte] at h6
    exact absurd h6 (by decide)
  | office =>
    obtain ⟨_, _, _, _, _, _, h6, _⟩ := officeStatus_bits (s.port .office)
    have hbyte : officeStatus (s.port .office) = 0xA5 := heq
    rw [hbyte] at h6
    exact absurd h6 (by decide)

/-- Settles O60: every part of a step keeps every lane tidy (`lanesTidy_law`), and tidy lanes have no status byte A5h. -/
theorem stepKeepsStatusBytes : Obligations.StepKeepsStatusBytes := by
  intro s t hpark hsettle hstep
  have htidy : t.LanesTidy := lanesTidy_law.step hstep (State.lanesTidy_iff.mpr ⟨hpark, hsettle⟩)
  obtain ⟨hpark', hsettle'⟩ := State.lanesTidy_iff.mp htidy
  exact ⟨hpark', hsettle', State.statusByte_ne_sync htidy⟩

end Sys2Proof.Machine
end

section
/-! Requests in flight (R59, R157, R159): at most one claim a lane, each of an ACTIVE lane whose CONTAINER is in flight, END in
flight exactly in SETTLING, and room in every output queue for the response of a request in flight. -/

namespace Sys2Proof.Machine

/-! ### The waiting claim of a lane (R59) -/

/-- A lane has a waiting claim where the set holds one of that lane. -/
theorem State.claimOf_isSome_iff {s : State} {k : LaneId} :
    (s.claimOf k).isSome = true ↔ k ∈ s.merge.claims.map Claim.lane := by
  simp [State.claimOf, List.find?_isSome]

/-- A waiting claim is found under its lane, where no lane has two. -/
theorem State.claimOf_of_mem {s : State} (hnodup : (s.merge.claims.map Claim.lane).Nodup) {c : Claim}
    (hc : c ∈ s.merge.claims) : s.claimOf c.lane = some c := by
  obtain ⟨d, hd⟩ := Option.isSome_iff_exists.mp
    (State.claimOf_isSome_iff.mpr (List.mem_map_of_mem (f := Claim.lane) hc))
  have hmem : d ∈ s.merge.claims := List.mem_of_find?_eq_some hd
  have hlane : d.lane = c.lane := by simpa using List.find?_some hd
  rw [hd, List.inj_on_of_nodup_map hnodup hmem hc hlane]

/-- A claim found under a lane waits in the set. -/
theorem State.mem_of_claimOf {s : State} {k : LaneId} {c : Claim} (h : s.claimOf k = some c) :
    c ∈ s.merge.claims ∧ c.lane = k :=
  ⟨List.mem_of_find?_eq_some h, by simpa using List.find?_some h⟩

/-- Taking lane `k`'s claim out of the set leaves the claims of the others. -/
theorem State.claimOf_of_filter {s t : State} {k : LaneId}
    (h : t.merge.claims = s.merge.claims.filter fun c => !(c.lane == k)) (j : LaneId) :
    t.claimOf j = if j = k then none else s.claimOf j := by
  unfold State.claimOf
  rw [h]
  split
  next hj => subst hj; simp
  next hj =>
    rw [List.find?_filter]
    congr 1
    funext c
    by_cases hc : c.lane = j <;> simp [hc, hj]

theorem State.claimOf_joinClaim (s : State) (c : Claim) (j : LaneId) :
    (s.joinClaim c).claimOf j = (s.claimOf j).or (if c.lane = j then some c else none) := by
  by_cases hc : c.lane = j <;> simp [State.claimOf, State.joinClaim, List.find?_append, hc]

/-! ### One decision of a pass (R72) -/

/-- The three outcomes of a decision. -/
theorem State.decideClaim_cases (s : State) (c : Claim) :
    s.decideClaim c = s ∨ (∃ b, s.mayMerge c = true ∧ s.binFor c = some b ∧ s.decideClaim c = s.grant c b) ∨
      s.decideClaim c = s.refuseClaim c.lane .materialFull := by
  unfold State.decideClaim
  split
  next hmay =>
    split
    next b hb => exact .inr (.inl ⟨b, hmay, hb, rfl⟩)
    next => exact .inr (.inr rfl)
  next => exact .inl rfl

/-- After a decision the claims are those it found, or those without the lane's. -/
theorem State.decideClaim_claims (s : State) (c : Claim) :
    (s.decideClaim c).merge.claims = s.merge.claims ∨
      (s.decideClaim c).merge.claims = s.merge.claims.filter fun d => !(d.lane == c.lane) := by
  obtain h | ⟨b, _, _, h⟩ | h := s.decideClaim_cases c <;> rw [h]
  · exact .inl rfl
  · exact .inr (s.grant_claims c b)
  · exact .inr rfl

/-- A law that the decision of a waiting claim keeps is kept by a pass: every claim of the pass is still waiting when it is
decided (R70, R71). -/
theorem State.mergePass_keeps {Q : State → Prop}
    (h : ∀ (t : State) (c : Claim), t.isUp = true → c ∈ t.merge.claims → (t.merge.claims.map Claim.lane).Nodup → Q t →
      Q (t.decideClaim c))
    {s : State} (hup : s.isUp = true) (hnodup : (s.merge.claims.map Claim.lane).Nodup) (hs : Q s) : Q s.mergePass := by
  have hpass : ∀ (cs : List Claim) (t : State), t.isUp = true → (cs.map Claim.lane).Nodup →
      (∀ c ∈ cs, c ∈ t.merge.claims) → (t.merge.claims.map Claim.lane).Nodup → Q t →
      Q (cs.foldl State.decideClaim t) := by
    intro cs
    induction cs with
    | nil => exact fun _ _ _ _ _ ht => ht
    | cons c rest ih =>
      intro t hup hcs hmem hnodup ht
      rw [List.map_cons, List.nodup_cons] at hcs
      obtain ⟨hnew, hrest⟩ := hcs
      refine ih _ (by simpa using hup) hrest (fun d hd => ?_) ?_ (h t c hup (hmem c (by simp)) hnodup ht)
      · have hne : d.lane ≠ c.lane := fun hlane => hnew (hlane ▸ List.mem_map_of_mem (f := Claim.lane) hd)
        obtain hclaims | hclaims := t.decideClaim_claims c <;> rw [hclaims]
        · exact hmem d (by simp [hd])
        · exact List.mem_filter.mpr ⟨hmem d (by simp [hd]), by simpa using hne⟩
      · obtain hclaims | hclaims := t.decideClaim_claims c <;> rw [hclaims]
        · exact hnodup
        · exact hnodup.sublist (List.filter_sublist.map _)
  exact hpass _ s hup hnodup (fun _ hc => hc) hnodup hs

/-! ### Changes at one lane -/

/-- Only lane `k`'s state, claim and link may differ in what the laws of this part read. -/
structure State.LaneMoved (s t : State) (k : LaneId) : Prop where
  nodup : (s.merge.claims.map Claim.lane).Nodup → (t.merge.claims.map Claim.lane).Nodup
  claim : ∀ j, j ≠ k → (t.claimOf j).isSome = (s.claimOf j).isSome
  state : ∀ j, j ≠ k → (t.lane j).state = (s.lane j).state
  flight : ∀ l, l ≠ .lane k → (t.port l).inFlight = (s.port l).inFlight
  queue : ∀ l, l ≠ .lane k → (t.port l).outQueue.length ≤ (s.port l).outQueue.length

theorem State.LaneMoved.trans {s t u : State} {k : LaneId} (h : s.LaneMoved t k) (h' : t.LaneMoved u k) :
    s.LaneMoved u k where
  nodup hn := h'.nodup (h.nodup hn)
  claim j hj := (h'.claim j hj).trans (h.claim j hj)
  state j hj := (h'.state j hj).trans (h.state j hj)
  flight l hl := (h'.flight l hl).trans (h.flight l hl)
  queue l hl := (h'.queue l hl).trans (h.queue l hl)

theorem State.Alike.moved {s t : State} (h : s.Alike t) (k : LaneId) : s.LaneMoved t k where
  nodup hn := by rw [h.claims]; exact hn
  claim j _ := by rw [h.claimOf]
  state j _ := by rw [h.lane]
  flight l _ := h.flight l
  queue l _ := h.queue l

theorem State.moved_setLane (s : State) (k : LaneId) (x : Lane) : s.LaneMoved (s.setLane k x) k where
  nodup hn := hn
  claim _ _ := rfl
  state j hj := by rw [State.lane_setLane_ne _ hj]
  flight _ _ := rfl
  queue _ _ := le_rfl

theorem State.moved_setPort (s : State) (k : LaneId) (p : LinkPort) : s.LaneMoved (s.setPort (.lane k) p) k where
  nodup hn := hn
  claim _ _ := rfl
  state _ _ := rfl
  flight l hl := by rw [State.port_setPort_ne _ hl]
  queue l hl := by rw [State.port_setPort_ne _ hl]

theorem State.moved_dropClaim (s : State) (k : LaneId) : s.LaneMoved (s.dropClaim k) k where
  nodup hn := hn.sublist (List.filter_sublist.map _)
  claim j hj := by rw [State.claimOf_of_filter (s := s) (t := s.dropClaim k) rfl j, if_neg hj]
  state _ _ := rfl
  flight _ _ := rfl
  queue _ _ := le_rfl

theorem State.moved_refuseClaim (s : State) (k : LaneId) (reason : Reason) : s.LaneMoved (s.refuseClaim k reason) k :=
  (s.moved_dropClaim k).trans (State.moved_setPort _ k _)

/-- The bins, the marks and the records are no part of these laws. -/
theorem State.moved_of_frame {s t : State} (k : LaneId) (hlane : t.lanes = s.lanes)
    (hclaims : t.merge.claims = s.merge.claims) (hflight : ∀ l, (t.port l).inFlight = (s.port l).inFlight)
    (hqueue : ∀ l, (t.port l).outQueue = (s.port l).outQueue) : s.LaneMoved t k where
  nodup hn := by rw [hclaims]; exact hn
  claim j _ := by rw [State.claimOf, hclaims, ← State.claimOf]
  state j _ := by rw [State.lane, hlane, ← State.lane]
  flight l _ := hflight l
  queue l _ := by rw [hqueue]

@[simp] theorem State.reformHeld_inFlight (s : State) (l : Link) : (s.reformHeld.port l).inFlight = (s.port l).inFlight :=
  (s.alike_reformHeld).flight l

@[simp] theorem State.reformHeld_outQueue (s : State) (l : Link) : (s.reformHeld.port l).outQueue = (s.port l).outQueue := by
  cases l with
  | lane k => rw [State.reformHeld_port_lane]; split <;> rfl
  | checkout => rw [State.reformHeld_port_checkout]
  | office => rw [State.reformHeld_port_office]

@[simp] theorem State.insertRecord_inFlight (s : State) (r : TransitRecord) (l : Link) :
    ((s.insertRecord r).port l).inFlight = (s.port l).inFlight := State.reformHeld_inFlight _ l

@[simp] theorem State.insertRecord_outQueue (s : State) (r : TransitRecord) (l : Link) :
    ((s.insertRecord r).port l).outQueue = (s.port l).outQueue := State.reformHeld_outQueue _ l

@[simp] theorem State.warnTest_inFlight (s : State) (b : BinId) (l : Link) :
    ((s.warnTest b).port l).inFlight = (s.port l).inFlight := by
  rw [State.warnTest_port]
  split
  next h => rw [h.1]
  next => rfl

@[simp] theorem State.warnTest_outQueue (s : State) (b : BinId) (l : Link) :
    ((s.warnTest b).port l).outQueue = (s.port l).outQueue := by
  rw [State.warnTest_port]
  split
  next h => rw [h.1]
  next => rfl

@[simp] theorem State.drainIfEmpty_inFlight (s : State) (b : BinId) (l : Link) :
    ((s.drainIfEmpty b).port l).inFlight = (s.port l).inFlight := by
  rw [State.drainIfEmpty_port]
  split
  next h => rw [h.1]
  next => rfl

@[simp] theorem State.drainIfEmpty_outQueue (s : State) (b : BinId) (l : Link) :
    ((s.drainIfEmpty b).port l).outQueue = (s.port l).outQueue := by
  rw [State.drainIfEmpty_port]
  split
  next h => rw [h.1]
  next => rfl

/-- A grant up to its response: the record, the reservation and the deposit (R75, steps 1 to 5). -/
theorem State.grant_eq (s : State) (c : Claim) (b : BinId) :
    ∃ t : State, s.LaneMoved t c.lane ∧ (∀ l, (t.port l).inFlight = (s.port l).inFlight) ∧
      (∀ l, (t.port l).outQueue = (s.port l).outQueue) ∧ ∃ r, s.grant c b = t.answer (.lane c.lane) r := by
  have hreserved : (s.dropClaim c.lane).LaneMoved
      (((s.dropClaim c.lane).insertRecord (s.grantedRecord c b)).reserve b (s.grantedRecord c b).volume) c.lane :=
    State.moved_of_frame c.lane (by simp) (by simp [State.insertRecord]) (by simp [State.reserve])
      (by simp [State.reserve])
  refine ⟨_, ((s.moved_dropClaim c.lane).trans hreserved).trans (State.moved_setLane _ c.lane _), ?_, ?_, _, rfl⟩
  · simp [State.reserve]
  · simp [State.reserve]

theorem State.moved_grant (s : State) (c : Claim) (b : BinId) : s.LaneMoved (s.grant c b) c.lane := by
  obtain ⟨t, hmoved, _, _, r, heq⟩ := s.grant_eq c b
  rw [heq]
  exact hmoved.trans (State.moved_setPort _ _ _)

/-- A grant answers the CONTAINER (R76). -/
theorem State.grant_port_self (s : State) (c : Claim) (b : BinId) :
    ((s.grant c b).port (.lane c.lane)).inFlight = none ∧
      ((s.grant c b).port (.lane c.lane)).outQueue.length = (s.port (.lane c.lane)).outQueue.length + 1 := by
  obtain ⟨t, _, _, hqueue, r, heq⟩ := s.grant_eq c b
  rw [heq]
  simp [hqueue]

theorem State.moved_closeSession (s : State) (k : LaneId) (power : Bool) : s.LaneMoved (s.closeSession k power) k where
  nodup hn := by simpa using hn
  claim j _ := by rw [State.closeSession_claimOf]
  state j hj := by rw [State.closeSession_lane, if_neg hj]
  flight l hl := by rw [State.closeSession_port_ne _ _ hl]
  queue l hl := by rw [State.closeSession_port_ne _ _ hl]

/-- A close answers the END in flight, and sends nothing where none is (R49). -/
theorem State.closeSession_flight (s : State) (k : LaneId) (power : Bool) :
    ((s.closeSession k power).port (.lane k)).inFlight =
        (if (s.port (.lane k)).inFlight = some .endSession then none else (s.port (.lane k)).inFlight) ∧
      ((s.closeSession k power).port (.lane k)).outQueue.length =
        (s.port (.lane k)).outQueue.length + if (s.port (.lane k)).inFlight = some .endSession then 1 else 0 := by
  rw [State.closeSession_port]
  simp only
  split <;> split <;> simp

theorem Lane.afterClose_state (parks : Bool) (c : CloseRecord) :
    (Lane.afterClose parks c).state = if parks then .parked else .ready := rfl

/-! ### The law of one lane -/

/-- The request in flight of a lane's link, against whether it has a waiting claim and its state. -/
def FlightAgrees (flight : Option ReqKind) (waiting : Bool) (st : LaneState) : Prop :=
  (flight = some .container ↔ waiting = true) ∧ (waiting = true → st = .active) ∧
    (flight = some .endSession ↔ st = .settling) ∧
    (flight = none ∨ flight = some .container ∨ flight = some .endSession)

/-- Lane `k`'s part of the law (R59, R157). -/
def State.LaneInFlight (s : State) (k : LaneId) : Prop :=
  FlightAgrees (s.port (.lane k)).inFlight (s.claimOf k).isSome (s.lane k).state

theorem State.LaneInFlight.of_idle {s : State} {k : LaneId} (hf : (s.port (.lane k)).inFlight = none)
    (hc : (s.claimOf k).isSome = false) (hst : (s.lane k).state ≠ .settling) : s.LaneInFlight k := by
  unfold State.LaneInFlight FlightAgrees
  simp [hf, hc, hst]

section
variable {s : State} (h : s.ClaimsInFlight)
include h

theorem State.ClaimsInFlight.nodup : (s.merge.claims.map Claim.lane).Nodup := h.1
theorem State.ClaimsInFlight.atLane (k : LaneId) : s.LaneInFlight k := h.2.1 k
theorem State.ClaimsInFlight.checkout : (s.port .checkout).inFlight = none := h.2.2.1
theorem State.ClaimsInFlight.office : (s.port .office).inFlight = none := h.2.2.2

/-- Without a request in flight a lane has no claim and is not SETTLING. -/
theorem State.ClaimsInFlight.of_flight_none {k : LaneId} (hf : (s.port (.lane k)).inFlight = none) :
    (s.claimOf k).isSome = false ∧ (s.lane k).state ≠ .settling := by
  obtain ⟨hclaim, _, hend, _⟩ := h.atLane k
  rw [hf] at hclaim hend
  refine ⟨?_, fun hst => nomatch hend.mpr hst⟩
  cases hw : (s.claimOf k).isSome
  · rfl
  · exact nomatch hclaim.mpr hw

/-- A lane that is not in a session has nothing in flight. -/
theorem State.ClaimsInFlight.of_not_inSession {k : LaneId} (hst : (s.lane k).state.inSession = false) :
    (s.port (.lane k)).inFlight = none ∧ (s.claimOf k).isSome = false := by
  obtain ⟨hclaim, hactive, hend, hkinds⟩ := h.atLane k
  have hwaiting : (s.claimOf k).isSome = false := by
    cases hw : (s.claimOf k).isSome
    · rfl
    · rw [hactive hw] at hst
      cases hst
  refine ⟨?_, hwaiting⟩
  obtain hf | hf | hf := hkinds
  · exact hf
  · rw [hclaim.mp hf] at hwaiting
    cases hwaiting
  · rw [hend.mp hf] at hst
    cases hst

/-- A SETTLING lane has its END in flight and no claim. -/
theorem State.ClaimsInFlight.of_settling {k : LaneId} (hst : (s.lane k).state = .settling) :
    (s.port (.lane k)).inFlight = some .endSession ∧ (s.claimOf k).isSome = false := by
  obtain ⟨_, hactive, hend, _⟩ := h.atLane k
  refine ⟨hend.mpr hst, ?_⟩
  cases hw : (s.claimOf k).isSome
  · rfl
  · rw [hactive hw] at hst
    cases hst

/-- A waiting claim is that of an ACTIVE lane with its CONTAINER in flight. -/
theorem State.ClaimsInFlight.of_waiting {k : LaneId} (hw : (s.claimOf k).isSome = true) :
    (s.port (.lane k)).inFlight = some .container ∧ (s.lane k).state = .active := by
  obtain ⟨hclaim, hactive, _, _⟩ := h.atLane k
  exact ⟨hclaim.mpr hw, hactive hw⟩

theorem State.ClaimsInFlight.moved {t : State} {k : LaneId} (hm : s.LaneMoved t k) (hk : t.LaneInFlight k) :
    t.ClaimsInFlight := by
  refine ⟨hm.nodup h.nodup, fun j => ?_, ?_, ?_⟩
  · by_cases hj : j = k
    · subst hj; exact hk
    · have hold := h.atLane j
      unfold State.LaneInFlight at hold
      rw [← hm.claim j hj, ← hm.state j hj, ← hm.flight _ (by simpa using hj)] at hold
      exact hold
  · rw [hm.flight _ (by simp), h.checkout]
  · rw [hm.flight _ (by simp), h.office]

theorem State.ClaimsInFlight.alike {t : State} (ha : s.Alike t) : t.ClaimsInFlight := by
  refine h.moved (ha.moved 0) ?_
  unfold State.LaneInFlight
  rw [ha.flight, ha.claimOf, ha.lane]
  exact h.atLane 0

/-- A claim that is taken out of the set with its CONTAINER answered. -/
theorem State.ClaimsInFlight.answered {t : State} {k : LaneId} (hm : s.LaneMoved t k)
    (hwaiting : (s.claimOf k).isSome = true) (hclaim : t.claimOf k = none)
    (hflight : (t.port (.lane k)).inFlight = none) (hstate : (t.lane k).state = (s.lane k).state) : t.ClaimsInFlight := by
  refine h.moved hm (.of_idle hflight (by rw [hclaim]; rfl) ?_)
  rw [hstate, (h.of_waiting hwaiting).2]
  decide

theorem State.ClaimsInFlight.refuseClaim {k : LaneId} (hw : (s.claimOf k).isSome = true) (reason : Reason) :
    (s.refuseClaim k reason).ClaimsInFlight :=
  h.answered (s.moved_refuseClaim k reason) hw
    (by rw [State.claimOf_of_filter (s := s) (t := s.refuseClaim k reason) rfl, if_pos rfl]) (by simp) (by simp)

theorem State.ClaimsInFlight.grant {c : Claim} (hc : c ∈ s.merge.claims) (b : BinId) : (s.grant c b).ClaimsInFlight := by
  refine h.answered (s.moved_grant c b) ?_ ?_ (s.grant_port_self c b).1 ?_
  · rw [State.claimOf_of_mem h.nodup hc]; rfl
  · rw [State.claimOf_of_filter (s.grant_claims c b), if_pos rfl]
  · rw [State.grant_lane, if_pos rfl]

theorem State.ClaimsInFlight.decideClaim {c : Claim} (hc : c ∈ s.merge.claims) : (s.decideClaim c).ClaimsInFlight := by
  obtain hd | ⟨b, _, _, hd⟩ | hd := s.decideClaim_cases c <;> rw [hd]
  · exact h
  · exact h.grant hc b
  · exact h.refuseClaim (by rw [State.claimOf_of_mem h.nodup hc]; rfl) _

/-- A close of a lane that has no claim. -/
theorem State.ClaimsInFlight.closeSession {k : LaneId} (hclaim : (s.claimOf k).isSome = false) (power : Bool) :
    (s.closeSession k power).ClaimsInFlight := by
  refine h.moved (s.moved_closeSession k power) (.of_idle ?_ (by rw [State.closeSession_claimOf]; exact hclaim) ?_)
  · rw [(s.closeSession_flight k power).1]
    obtain ⟨hcontainer, _, _, hkinds⟩ := h.atLane k
    obtain hf | hf | hf := hkinds
    · simp [hf]
    · rw [hcontainer.mp hf] at hclaim
      cases hclaim
    · simp [hf]
  · rw [State.closeSession_lane, if_pos rfl, Lane.afterClose_state]
    split <;> decide

/-- The figures of a lane are no part of the law. -/
theorem State.ClaimsInFlight.setLane {k : LaneId} {x : Lane} (hx : x.state = (s.lane k).state) :
    (s.setLane k x).ClaimsInFlight := by
  refine h.moved (s.moved_setLane k x) ?_
  unfold State.LaneInFlight
  rw [State.lane_setLane_self, hx]
  exact h.atLane k

theorem State.ClaimsInFlight.closeIfSettled (k : LaneId) : (s.closeIfSettled k).ClaimsInFlight := by
  unfold State.closeIfSettled
  split
  next hst =>
    exact State.ClaimsInFlight.closeSession (s := s.setLane k { s.lane k with unconfirmedCredit := 0, unconfirmedCount := 0 })
      (h.setLane rfl) (h.of_settling hst.1).2 false
  next => exact h

/-- The bins and the marks are no part of the law. -/
theorem State.ClaimsInFlight.congr {t : State} (hlane : t.lanes = s.lanes) (hclaims : t.merge.claims = s.merge.claims)
    (hflight : ∀ l, (t.port l).inFlight = (s.port l).inFlight) (hqueue : ∀ l, (t.port l).outQueue = (s.port l).outQueue) :
    t.ClaimsInFlight := by
  refine h.moved (State.moved_of_frame 0 hlane hclaims hflight hqueue) ?_
  unfold State.LaneInFlight
  rw [hflight, State.claimOf, hclaims, ← State.claimOf, State.lane, hlane, ← State.lane]
  exact h.atLane 0

end

/-! ### The law, part by part -/

@[simp] theorem State.headConfirmed_inFlight (s : State) (r : TransitRecord) (rest : List TransitRecord) (l : Link) :
    ((s.headConfirmed r rest).port l).inFlight = (s.port l).inFlight := by
  simp [State.headConfirmed, State.confirmFill, State.removeHead]

@[simp] theorem State.headConfirmed_outQueue (s : State) (r : TransitRecord) (rest : List TransitRecord) (l : Link) :
    ((s.headConfirmed r rest).port l).outQueue = (s.port l).outQueue := by
  simp [State.headConfirmed, State.confirmFill, State.removeHead]

@[simp] theorem State.headReleased_inFlight (s : State) (r : TransitRecord) (rest : List TransitRecord) (l : Link) :
    ((s.headReleased r rest).port l).inFlight = (s.port l).inFlight := by
  simp [State.headReleased, State.releaseFill, State.removeHead]

@[simp] theorem State.headReleased_outQueue (s : State) (r : TransitRecord) (rest : List TransitRecord) (l : Link) :
    ((s.headReleased r rest).port l).outQueue = (s.port l).outQueue := by
  simp [State.headReleased, State.releaseFill, State.removeHead]

theorem State.ClaimsInFlight.headConfirmed {s : State} (h : s.ClaimsInFlight) (r : TransitRecord)
    (rest : List TransitRecord) : (s.headConfirmed r rest).ClaimsInFlight :=
  h.congr (by simp) (by simp) (by simp) (by simp)

theorem State.ClaimsInFlight.headReleased {s : State} (h : s.ClaimsInFlight) (r : TransitRecord)
    (rest : List TransitRecord) : (s.headReleased r rest).ClaimsInFlight :=
  h.congr (by simp) (by simp) (by simp) (by simp)

theorem State.ClaimsInFlight.raise {s : State} (h : s.ClaimsInFlight) (l : Link) (n : Notice) :
    (s.raise l n).ClaimsInFlight := h.alike (s.alike_raise l n)

theorem claimsInFlight_gate : GateLaw State.ClaimsInFlight where
  alike ha h := h.alike ha
  pass hup h := State.mergePass_keeps (fun _ _ _ hc _ ht => ht.decideClaim hc) hup h.nodup h
  matchHead {s r rest} _ _ h := by
    rw [State.matchHead_eq]
    refine State.ClaimsInFlight.alike ?_ (State.alike_setTotals _ _)
    unfold State.confirmCredit
    split
    · refine State.ClaimsInFlight.closeIfSettled (State.ClaimsInFlight.setLane (h.headConfirmed r rest) ?_) _
      rfl
    · exact h.headConfirmed r rest
  missHead {s r rest} _ _ h := by
    rw [State.missHead_eq]
    refine State.ClaimsInFlight.alike ?_ (State.alike_setTotals _ _)
    unfold State.loseCredit
    split
    · refine State.ClaimsInFlight.closeIfSettled
        (State.ClaimsInFlight.raise (State.ClaimsInFlight.setLane (h.headReleased r rest) ?_) _ _) _
      rfl
    · exact (h.headReleased r rest).alike (State.alike_setTotals _ _)

/-- A response leaves the requests in flight. -/
theorem State.ClaimsInFlight.respond {s : State} (h : s.ClaimsInFlight) (l : Link) (r : Response) :
    (s.respond l r).ClaimsInFlight := by
  have hflight : ∀ m, ((s.respond l r).port m).inFlight = (s.port m).inFlight := fun m => by
    by_cases hm : m = l
    · subst hm; simp
    · rw [State.respond_port_ne _ _ hm]
  refine ⟨h.nodup, fun k => ?_, ?_, ?_⟩
  · rw [hflight]; exact h.atLane k
  · rw [hflight, h.checkout]
  · rw [hflight, h.office]

/-- A lane that enters another state with its request in flight (R40, R48). -/
theorem State.ClaimsInFlight.enters {s : State} (h : s.ClaimsInFlight) {k : LaneId} {x : Lane} {p : LinkPort}
    (hk : FlightAgrees p.inFlight (s.claimOf k).isSome x.state) : ((s.setLane k x).setPort (.lane k) p).ClaimsInFlight := by
  refine h.moved ((s.moved_setLane k x).trans (State.moved_setPort _ k p)) ?_
  unfold State.LaneInFlight
  simpa using hk

theorem State.ClaimsInFlight.sessionOpened {s : State} (h : s.ClaimsInFlight) {k : LaneId}
    (hst : (s.lane k).state = .ready) (i : SlotId) (rest : List SlotId) : (s.sessionOpened k i rest).ClaimsInFlight := by
  obtain ⟨hf, hw⟩ := h.of_not_inSession (k := k) (by rw [hst]; rfl)
  have hstack : State.ClaimsInFlight { s with table := { s.table with stack := rest } } := h
  have hactive : ((s.sessionOpened k i rest).lane k).state = .active := by simp [State.sessionOpened]
  have hmoved : State.LaneMoved { s with table := { s.table with stack := rest } } (s.sessionOpened k i rest) k :=
    State.moved_setLane _ k _
  refine hstack.moved hmoved (.of_idle hf hw ?_)
  rw [hactive]
  decide

theorem State.ClaimsInFlight.claimJoined {s : State} (h : s.ClaimsInFlight) {k : LaneId}
    (hf : (s.port (.lane k)).inFlight = none) (hst : (s.lane k).state = .active) (cls : ClassId) :
    (s.claimJoined k cls).ClaimsInFlight := by
  obtain ⟨hw, _⟩ := h.of_flight_none hf
  have hclaim : ∀ j, (s.claimJoined k cls).claimOf j =
      (s.claimOf j).or (if k = j then some (s.newClaim k cls) else none) := s.claimOf_joinClaim (s.newClaim k cls)
  have hnew : k ∉ s.merge.claims.map Claim.lane := fun hk => by
    rw [← State.claimOf_isSome_iff, hw] at hk
    cases hk
  refine h.moved (k := k) ⟨fun hn => ?_, fun j hj => ?_, fun _ _ => rfl, fun l hl => ?_, fun l hl => ?_⟩ ?_
  · have hlanes : (s.claimJoined k cls).merge.claims.map Claim.lane = s.merge.claims.map Claim.lane ++ [k] := by
      simp [State.claimJoined, State.joinClaim, State.newClaim]
    rw [hlanes]
    exact List.nodup_append.mpr ⟨hn, List.nodup_singleton k, fun a ha b hb => by
      rw [List.mem_singleton.mp hb]
      exact fun hak => hnew (hak ▸ ha)⟩
  · rw [hclaim, if_neg (Ne.symm hj), Option.or_none]
  · exact congrArg LinkPort.inFlight (State.keepInFlight_port_ne _ _ hl)
  · exact le_of_eq (congrArg (fun p : LinkPort => p.outQueue.length) (State.keepInFlight_port_ne _ _ hl))
  · have hlane : (s.claimJoined k cls).lane k = s.lane k := rfl
    have hflight : ((s.claimJoined k cls).port (.lane k)).inFlight = some .container := by
      simp [State.claimJoined]
    unfold State.LaneInFlight
    rw [hclaim, hlane, hflight, hst]
    refine ⟨?_, fun _ => rfl, ?_, .inr (.inl rfl)⟩
    · simp
    · simp

theorem State.ClaimsInFlight.endAtOnce {s : State} (h : s.ClaimsInFlight) {k : LaneId}
    (hf : (s.port (.lane k)).inFlight = none) :
    ((s.keepInFlight (.lane k) .endSession).ordinaryClose k).ClaimsInFlight := by
  obtain ⟨hw, _⟩ := h.of_flight_none hf
  have hkept : s.LaneMoved (s.keepInFlight (.lane k) .endSession) k := State.moved_setPort s k _
  refine h.moved ((hkept.trans (State.moved_setLane _ k _)).trans (State.moved_closeSession _ k false)) (.of_idle ?_ ?_ ?_)
  · rw [State.ordinaryClose, (State.closeSession_flight _ k false).1, if_pos (by simp)]
  · rw [State.ordinaryClose_claimOf]
    exact hw
  · rw [State.ordinaryClose, State.closeSession_lane, if_pos rfl, Lane.afterClose_state]
    split <;> decide

theorem State.ClaimsInFlight.beginSettling {s : State} (h : s.ClaimsInFlight) {k : LaneId}
    (hf : (s.port (.lane k)).inFlight = none) : (s.beginSettling k).ClaimsInFlight := by
  obtain ⟨hw, _⟩ := h.of_flight_none hf
  refine h.enters ?_
  rw [hw]
  exact ⟨by simp, fun h => (nomatch h), by simp, .inr (.inr rfl)⟩

theorem State.ClaimsInFlight.limitClose {s : State} (h : s.ClaimsInFlight) {k : LaneId}
    (hst : (s.lane k).state = .settling) : (s.limitClose k).ClaimsInFlight :=
  State.ClaimsInFlight.closeSession (s := s.countUnconfirmed k) (h.setLane rfl) (h.of_settling hst).2 false

theorem State.ClaimsInFlight.supplyClose {s : State} (h : s.ClaimsInFlight) {k : LaneId}
    (hw : (s.claimOf k).isSome = false) : (s.supplyClose k).ClaimsInFlight :=
  State.ClaimsInFlight.closeSession (s := s.countUnconfirmed k) (h.setLane rfl) hw true

/-- A lane that is not in a session enters PARKED or READY. -/
theorem State.ClaimsInFlight.setIdleLane {s : State} (h : s.ClaimsInFlight) {k : LaneId} {x : Lane}
    (hold : (s.lane k).state.inSession = false) (hx : x.state.inSession = false) : (s.setLane k x).ClaimsInFlight := by
  obtain ⟨hf, hw⟩ := h.of_not_inSession hold
  refine h.moved (s.moved_setLane k x) (.of_idle hf hw ?_)
  rw [State.lane_setLane_self]
  exact fun hst => by rw [hst] at hx; cases hx

theorem State.ClaimsInFlight.holdUpLane {s : State} (h : s.ClaimsInFlight) (k : LaneId) :
    (s.holdUpLane k).ClaimsInFlight := by
  unfold State.holdUpLane
  split
  next hst =>
    split
    next hw =>
      refine (h.refuseClaim hw .power).supplyClose ?_
      rw [State.claimOf_of_filter (s := s) (t := s.refuseClaim k .power) rfl, if_pos rfl]
      rfl
    next hw => exact h.supplyClose (by simpa using hw)
  next hst => exact h.supplyClose (h.of_settling hst).2
  next hst => exact State.ClaimsInFlight.raise (h.setIdleLane (by rw [hst]; rfl) rfl) _ _
  next => exact h

/-- A lane at an apply stays in its session, or outside one (R55). -/
theorem Lane.atApply_state (l : Lane) (mode : LaneMode) :
    (l.atApply mode).state = l.state ∨ l.state.inSession = false ∧ (l.atApply mode).state.inSession = false := by
  cases hst : l.state <;> cases mode <;> simp [Lane.atApply, hst, LaneState.inSession]

theorem State.ClaimsInFlight.applyLane {s : State} (h : s.ClaimsInFlight) (k : LaneId) :
    (s.applyLane k).ClaimsInFlight := by
  have hset : (s.setLane k ((s.lane k).atApply (s.lanePart k).mode)).ClaimsInFlight := by
    obtain hst | ⟨hold, hnew⟩ := (s.lane k).atApply_state (s.lanePart k).mode
    · exact h.setLane hst
    · exact h.setIdleLane hold hnew
  simp only [State.applyLane]
  split
  · exact hset
  · exact hset.raise _ _

theorem State.ClaimsInFlight.applied {s : State} (h : s.ClaimsInFlight) : s.appliedParts.reevaluated.ClaimsInFlight := by
  have hparts : s.appliedParts.ClaimsInFlight :=
    State.appliedParts_keeps (P := State.ClaimsInFlight) h (fun t k ht => ht.applyLane k) (fun t b ht => ht)
      fun t b ht => ht.congr (by simp) (by simp) (by simp) (by simp)
  exact hparts.congr (by simp [State.reevaluated]) (by simp [State.reevaluated]) (by simp [State.reevaluated])
    (by simp [State.reevaluated])

/-- A corner whose lanes are all PARKED or READY, with no claim and no request in flight. -/
theorem State.claimsInFlight_of_quiet {s : State} (hclaims : s.merge.claims = [])
    (hflight : ∀ l, (s.port l).inFlight = none) (hst : ∀ k, (s.lane k).state ≠ .settling) : s.ClaimsInFlight :=
  ⟨by simp [hclaims], fun k => State.LaneInFlight.of_idle (hflight _) (by simp [State.claimOf, hclaims]) (hst k),
    hflight _, hflight _⟩

/-- A state in which nothing of the volatile domain is left (R145, R146). -/
structure State.Blanked (s : State) : Prop where
  ports : s.ports = Vector.replicate 6 .blank
  claims : s.merge.claims = []
  transit : s.transit = []
  parked : ∀ k, s.lane k = (s.lane k).retained

theorem State.blanked_loseVolatile (s : State) : s.loseVolatile.Blanked where
  ports := rfl
  claims := rfl
  transit := rfl
  parked k := by
    have hlane : s.loseVolatile.lane k = (s.lane k).retained := getElem_mapAll _ _ _ _
    rw [hlane]
    rfl

theorem State.Blanked.recoverLane {s : State} (h : s.Blanked) (k : LaneId) : (s.recoverLane k).Blanked := by
  have hset : ∀ t : State, t.Blanked → (t.setLane k .cold).Blanked := fun t ht =>
    { ports := ht.ports, claims := ht.claims, transit := ht.transit
      parked := fun j => by
        rw [State.lane_setLane]
        split
        · rfl
        · exact ht.parked j }
  simp only [State.recoverLane]
  split
  · exact hset _ { ports := h.ports, claims := h.claims, transit := h.transit, parked := h.parked }
  · exact hset s h

theorem State.Blanked.recoverLanes {s : State} (h : s.Blanked) (n : Nat) : (s.recoverLanes n).Blanked := by
  refine foldl_lanes_keeps (P := State.Blanked) (fun t k ht => ht.recoverLane k) ?_ _
  exact { ports := h.ports, claims := h.claims, transit := h.transit, parked := h.parked }

theorem State.Blanked.port {s : State} (h : s.Blanked) (l : Link) : s.port l = .blank := by
  rw [State.port, h.ports]
  simp

theorem State.Blanked.state {s : State} (h : s.Blanked) (k : LaneId) : (s.lane k).state = .parked := by
  rw [h.parked k]
  rfl

theorem State.Blanked.claimsInFlight {s : State} (h : s.Blanked) : s.ClaimsInFlight :=
  State.claimsInFlight_of_quiet h.claims (fun l => by rw [h.port]; rfl) fun k => by rw [h.state]; decide

/-- The values of a link at a start (R164). -/
theorem State.finishStart_port (s : State) (cause : ResetCause) (lines : StartLines) (l : Link) :
    (s.finishStart cause lines).port l = .started (l == .office) := by
  cases l with
  | lane k => fin_cases k <;> rfl
  | checkout => rfl
  | office => rfl

theorem State.claimsInFlight_finishStart {s : State} (hclaims : s.merge.claims = [])
    (hst : ∀ k, (s.lane k).state ≠ .settling) (cause : ResetCause) (lines : StartLines) :
    (s.finishStart cause lines).ClaimsInFlight :=
  State.claimsInFlight_of_quiet hclaims (fun l => by rw [State.finishStart_port]; rfl) hst

@[simp] theorem State.coldWork_lane (s : State) (k : LaneId) : s.coldWork.lane k = .cold := by
  simp [State.coldWork, State.reset, State.lane]

theorem State.blanked_warmWork (s : State) : s.warmWork.Blanked := by
  have h := s.blanked_loseVolatile.recoverLanes 4
  unfold State.warmWork
  generalize s.loseVolatile.recoverLanes 4 = u at h ⊢
  exact { ports := h.ports, claims := h.claims, transit := h.transit, parked := h.parked }

theorem claimsInFlight_law : PartLaw State.ClaimsInFlight State.ClaimsInFlight where
  weaken := id
  alike ha h := h.alike ha
  alikeAfter ha h := h.alike ha
  respond l r _ h := h.respond l r
  pass := claimsInFlight_gate.pass
  timers {s} _ h := by
    have hlanes : s.advanceTimers.merge.claims.map Claim.lane = s.merge.claims.map Claim.lane := by
      simp only [State.advanceTimers, List.map_map]
      rfl
    have hwaiting : ∀ k, (s.advanceTimers.claimOf k).isSome = (s.claimOf k).isSome := fun k => by
      rw [Bool.eq_iff_iff, State.claimOf_isSome_iff, State.claimOf_isSome_iff, hlanes]
    refine ⟨by rw [hlanes]; exact h.nodup, fun k => ?_, ?_, ?_⟩
    · rw [hwaiting, State.advanceTimers_lane, State.advanceTimers_port]
      exact h.atLane k
    · rw [State.advanceTimers_port]; exact h.checkout
    · rw [State.advanceTimers_port]; exact h.office
  pulse order hup h := claimsInFlight_gate.pulse hup h order
  edge := claimsInFlight_gate.takeEdge
  pulseWithEdge order hup h := claimsInFlight_gate.pulseWithEdge hup h order
  openSession k i rest _ hst _ h := h.sessionOpened hst i rest
  join k rep cls _ hf _ hst _ h := h.claimJoined hf hst cls
  refuseClaim k reason _ hw h := by
    refine h.refuseClaim (hw.elim id fun hf => ?_) reason
    exact (h.atLane k).1.mp hf
  endAtOnce k _ hf _ _ _ h := h.endAtOnce hf
  beginSettling k _ hf _ _ _ h := h.beginSettling hf
  limitClose k _ hst h := h.limitClose hst
  rewrite _ _ _ _ _ h := h
  remove _ _ _ _ h := h
  release _ _ _ _ h := h
  returnBin _ _ _ h := h
  apply _ _ h := h.applied
  holdUpLane k _ h := h.holdUpLane k
  parkModes _ h := h
  lose {s} _ _ _ := s.blanked_loseVolatile.claimsInFlight
  cut {s} n _ := (s.blanked_loseVolatile.recoverLanes n).claimsInFlight
  warm {s} cause lines _ := State.claimsInFlight_finishStart s.blanked_warmWork.claims
    (fun k => by rw [s.blanked_warmWork.state]; decide) cause lines
  cold {s} lines _ := State.claimsInFlight_finishStart rfl (fun k => by rw [State.coldWork_lane]; decide) .cold lines

/-! ### Room in the output queues (R159) -/

/-- A link whose queue has room for the response of a request in flight. -/
def LinkPort.Roomy (p : LinkPort) : Prop := p.outQueue.length ≤ 4 ∧ (p.inFlight.isSome = true → p.outQueue.length ≤ 3)

/-- A link with nothing in flight and one frame more than a link with a request in flight had. -/
theorem LinkPort.Roomy.answered {p q : LinkPort} (h : p.Roomy) (hp : p.inFlight.isSome = true) (hq : q.inFlight = none)
    (hlen : q.outQueue.length = p.outQueue.length + 1) : q.Roomy := by
  have hroom := h.2 hp
  exact ⟨by omega, fun h => by rw [hq] at h; cases h⟩

theorem LinkPort.Roomy.of_lt {p : LinkPort} (h : p.outQueue.length ≤ 3) : p.Roomy := ⟨by omega, fun _ => h⟩

theorem LinkPort.Roomy.of_le {p q : LinkPort} (h : p.Roomy) (hf : q.inFlight = p.inFlight)
    (hq : q.outQueue.length ≤ p.outQueue.length) : q.Roomy :=
  ⟨hq.trans h.1, fun hs => hq.trans (h.2 (hf ▸ hs))⟩

section
variable {s : State} (h : s.QueuesBounded)
include h

theorem State.QueuesBounded.moved {t : State} {k : LaneId} (hm : s.LaneMoved t k) (hk : (t.port (.lane k)).Roomy) :
    t.QueuesBounded := by
  intro l
  by_cases hl : l = .lane k
  · subst hl; exact hk
  · exact LinkPort.Roomy.of_le (h l) (hm.flight l hl) (hm.queue l hl)

theorem State.QueuesBounded.alike {t : State} (ha : s.Alike t) : t.QueuesBounded := fun l =>
  LinkPort.Roomy.of_le (h l) (ha.flight l) (ha.queue l)

theorem State.QueuesBounded.congr {t : State} (hflight : ∀ l, (t.port l).inFlight = (s.port l).inFlight)
    (hqueue : ∀ l, (t.port l).outQueue = (s.port l).outQueue) : t.QueuesBounded := fun l =>
  LinkPort.Roomy.of_le (h l) (hflight l) (by rw [hqueue])

theorem State.QueuesBounded.refuseClaim {k : LaneId} (hf : (s.port (.lane k)).inFlight = some .container)
    (reason : Reason) : (s.refuseClaim k reason).QueuesBounded :=
  h.moved (s.moved_refuseClaim k reason) (LinkPort.Roomy.answered (h (.lane k)) (by rw [hf]; rfl) (by simp) (by simp))

theorem State.QueuesBounded.closeSession (k : LaneId) (power : Bool) : (s.closeSession k power).QueuesBounded := by
  refine h.moved (s.moved_closeSession k power) ?_
  obtain ⟨hflight, hlen⟩ := s.closeSession_flight k power
  by_cases hend : (s.port (.lane k)).inFlight = some .endSession
  · rw [if_pos hend] at hflight hlen
    exact LinkPort.Roomy.answered (h (.lane k)) (by rw [hend]; rfl) hflight hlen
  · rw [if_neg hend] at hflight hlen
    exact LinkPort.Roomy.of_le (h (.lane k)) hflight (le_of_eq hlen)

theorem State.QueuesBounded.setLane {k : LaneId} {x : Lane} : (s.setLane k x).QueuesBounded := h

theorem State.QueuesBounded.closeIfSettled (k : LaneId) : (s.closeIfSettled k).QueuesBounded := by
  unfold State.closeIfSettled
  split
  · exact State.QueuesBounded.closeSession h.setLane k false
  · exact h

theorem State.QueuesBounded.decideClaim (hc : s.ClaimsInFlight) {c : Claim} (hmem : c ∈ s.merge.claims) :
    (s.decideClaim c).QueuesBounded := by
  have hflight := (hc.of_waiting (k := c.lane) (by rw [State.claimOf_of_mem hc.nodup hmem]; rfl)).1
  obtain hd | ⟨b, _, _, hd⟩ | hd := s.decideClaim_cases c <;> rw [hd]
  · exact h
  · obtain ⟨hnone, hlen⟩ := s.grant_port_self c b
    exact h.moved (s.moved_grant c b) (LinkPort.Roomy.answered (h (.lane c.lane)) (by rw [hflight]; rfl) hnone hlen)
  · exact h.refuseClaim hflight _

end

/-- The whole law of the requests in flight. -/
def State.FlightsOrderly (s : State) : Prop := s.ClaimsInFlight ∧ s.QueuesBounded

theorem flightsOrderly_gate : GateLaw State.FlightsOrderly where
  alike ha h := ⟨h.1.alike ha, h.2.alike ha⟩
  pass hup h := State.mergePass_keeps
    (fun _ _ _ hc _ ht => ⟨ht.1.decideClaim hc, ht.2.decideClaim ht.1 hc⟩) hup h.1.nodup h
  matchHead {s r rest} hup hhead h := by
    refine ⟨claimsInFlight_gate.matchHead hup hhead h.1, ?_⟩
    rw [State.matchHead_eq]
    refine State.QueuesBounded.alike ?_ (State.alike_setTotals _ _)
    have hconfirmed : (s.headConfirmed r rest).QueuesBounded := h.2.congr (by simp) (by simp)
    unfold State.confirmCredit
    split
    · exact State.QueuesBounded.closeIfSettled (s := State.setLane _ _ _) hconfirmed _
    · exact hconfirmed
  missHead {s r rest} hup hhead h := by
    refine ⟨claimsInFlight_gate.missHead hup hhead h.1, ?_⟩
    rw [State.missHead_eq]
    refine State.QueuesBounded.alike ?_ (State.alike_setTotals _ _)
    have hreleased : (s.headReleased r rest).QueuesBounded := h.2.congr (by simp) (by simp)
    unfold State.loseCredit
    split
    · refine State.QueuesBounded.closeIfSettled (State.QueuesBounded.alike ?_ (State.alike_raise _ _ _)) _
      exact hreleased
    · exact hreleased

theorem State.QueuesBounded.holdUpLane {s : State} (h : s.QueuesBounded) (hc : s.ClaimsInFlight) (k : LaneId) :
    (s.holdUpLane k).QueuesBounded := by
  unfold State.holdUpLane
  split
  · split
    next hw =>
      exact State.QueuesBounded.closeSession (s := (s.refuseClaim k .power).countUnconfirmed k)
        (h.refuseClaim (hc.of_waiting hw).1 .power) k true
    next => exact State.QueuesBounded.closeSession (s := s.countUnconfirmed k) h k true
  · exact State.QueuesBounded.closeSession (s := s.countUnconfirmed k) h k true
  · exact State.QueuesBounded.alike (s := s.setLane k _) h (State.alike_raise _ _ _)
  · exact h

theorem State.QueuesBounded.applied {s : State} (h : s.QueuesBounded) : s.appliedParts.reevaluated.QueuesBounded := by
  have hparts : s.appliedParts.QueuesBounded := by
    refine State.appliedParts_keeps (P := State.QueuesBounded) h (fun t k ht => ?_) (fun t b ht => ht)
      fun t b ht => ht.congr (by simp) (by simp)
    simp only [State.applyLane]
    split
    · exact ht
    · exact State.QueuesBounded.alike (s := t.setLane k _) ht (State.alike_raise _ _ _)
  exact hparts.congr (by simp [State.reevaluated]) (by simp [State.reevaluated])

theorem State.Blanked.queuesBounded {s : State} (h : s.Blanked) : s.QueuesBounded := fun l => by
  rw [h.port]
  exact ⟨by decide, by decide⟩

theorem State.queuesBounded_finishStart (s : State) (cause : ResetCause) (lines : StartLines) :
    (s.finishStart cause lines).QueuesBounded := fun l => by
  rw [State.finishStart_port]
  exact ⟨Nat.zero_le _, fun _ => Nat.zero_le _⟩

theorem flightsOrderly_law : PartLaw State.FlightsOrderly State.FlightsOrderly where
  weaken := id
  alike := flightsOrderly_gate.alike
  alikeAfter := flightsOrderly_gate.alike
  respond {s} l r hq h := by
    refine ⟨h.1.respond l r, fun m => ?_⟩
    by_cases hm : m = l
    · subst hm
      refine LinkPort.Roomy.of_lt ?_
      rw [State.respond_port_self, LinkPort.enqueue_outQueue, List.length_append, List.length_singleton]
      omega
    · rw [State.respond_port_ne _ _ hm]
      exact h.2 m
  pass := flightsOrderly_gate.pass
  timers {s} hup h := by
    refine ⟨claimsInFlight_law.timers hup h.1, fun l => ?_⟩
    rw [State.advanceTimers_port]
    exact h.2 l
  pulse order hup h := flightsOrderly_gate.pulse hup h order
  edge := flightsOrderly_gate.takeEdge
  pulseWithEdge order hup h := flightsOrderly_gate.pulseWithEdge hup h order
  openSession k i rest hup hst hstack h := ⟨claimsInFlight_law.openSession k i rest hup hst hstack h.1, h.2⟩
  join {s} k rep cls hup hf hq hst hcls h := by
    refine ⟨claimsInFlight_law.join k rep cls hup hf hq hst hcls h.1, ?_⟩
    refine State.QueuesBounded.moved (s := s.joinClaim (s.newClaim k cls)) h.2 (State.moved_setPort _ k _)
      (LinkPort.Roomy.of_lt ?_)
    have hqueue : ((s.claimJoined k cls).port (.lane k)).outQueue = (s.port (.lane k)).outQueue := by
      simp [State.claimJoined, State.joinClaim]
    rw [hqueue]
    exact Nat.le_of_lt hq
  refuseClaim {s} k reason hup hw h := by
    refine ⟨claimsInFlight_law.refuseClaim k reason hup hw h.1, h.2.refuseClaim ?_ reason⟩
    exact hw.elim (fun hw => (h.1.of_waiting hw).1) id
  endAtOnce {s} k hup hf hq hst hcount h := by
    refine ⟨claimsInFlight_law.endAtOnce k hup hf hq hst hcount h.1, ?_⟩
    have hkept : (s.keepInFlight (.lane k) .endSession).QueuesBounded := by
      refine h.2.moved (State.moved_setPort s k _) (LinkPort.Roomy.of_lt ?_)
      rw [State.keepInFlight_port_self]
      exact Nat.le_of_lt hq
    exact State.QueuesBounded.closeSession hkept.setLane k false
  beginSettling {s} k hup hf hq hst hcount h := by
    refine ⟨claimsInFlight_law.beginSettling k hup hf hq hst hcount h.1, ?_⟩
    refine h.2.moved ((s.moved_setLane k _).trans (State.moved_setPort _ k _)) (LinkPort.Roomy.of_lt ?_)
    have hqueue : ((s.beginSettling k).port (.lane k)).outQueue = (s.port (.lane k)).outQueue := by
      simp [State.beginSettling]
    rw [hqueue]
    exact Nat.le_of_lt hq
  limitClose {s} k hup hst h := ⟨claimsInFlight_law.limitClose k hup hst h.1,
    State.QueuesBounded.closeSession (s := s.countUnconfirmed k) h.2 k false⟩
  rewrite _ _ _ _ _ h := h
  remove _ _ _ _ h := h
  release _ _ _ _ h := h
  returnBin _ _ _ h := h
  apply _ _ h := ⟨h.1.applied, h.2.applied⟩
  holdUpLane k _ h := ⟨h.1.holdUpLane k, h.2.holdUpLane h.1 k⟩
  parkModes _ h := h
  lose {s} _ _ _ := ⟨s.blanked_loseVolatile.claimsInFlight, s.blanked_loseVolatile.queuesBounded⟩
  cut {s} n _ := ⟨(s.blanked_loseVolatile.recoverLanes n).claimsInFlight,
    (s.blanked_loseVolatile.recoverLanes n).queuesBounded⟩
  warm {s} cause lines h := ⟨claimsInFlight_law.warm cause lines h.1, State.queuesBounded_finishStart _ _ _⟩
  cold {s} lines h := ⟨claimsInFlight_law.cold lines h.1, State.queuesBounded_finishStart _ _ _⟩

/-- Settles O56: every part of a step keeps both laws (`flightsOrderly_law`). -/
theorem stepKeepsClaimsInFlight : Obligations.StepKeepsClaimsInFlight := by
  intro s t hclaims hqueues hstep
  exact flightsOrderly_law.step hstep ⟨hclaims, hqueues⟩

end Sys2Proof.Machine
end

section
/-! The checks of Table 2-4 in the terms of the obligations: each test of `State.checkClass` is one of the conditions of R25 to
R29, in their order. -/

namespace Sys2Proof.Machine

/-- Check 4 (R26). -/
theorem State.materialOpen_iff {s : State} {k : LaneId} {material : Nat} :
    (s.accepts k material && s.materialServed material) = true ↔ s.MaterialOpen k material := by
  have hbins : ∀ b : BinId, b ∈ binIds := by decide
  simp [State.MaterialOpen, State.accepts, State.lanePart, State.materialServed, Bin.serves, hbins]

/-- Check 5 (R27). -/
theorem TariffClass.weighsIn_iff {c : TariffClass} {w : Nat} :
    (decide (c.weightMin ≤ w) && decide (w ≤ c.weightMax)) = true ↔ c.WeighsIn w := by
  simp [TariffClass.WeighsIn]

/-- Check 6 (R27). -/
theorem TariffClass.not_shapeIn_iff {c : TariffClass} {ok : Bool} : (c.shapeRequired && !ok) = true ↔ ¬ c.ShapeIn ok := by
  simp [TariffClass.ShapeIn]

/-- Check 7 (R28). -/
theorem State.creditRoom_iff {s : State} {k : LaneId} {deposit : Nat} :
    (decide ((s.lane k).firmCredit + s.provisionalCredit k + deposit ≤ Config.voucherCeiling) &&
      decide ((s.lane k).firmCount + s.provisionalCount k + 1 ≤ Config.containerLimit)) = true ↔ s.CreditRoom k deposit := by
  rw [Bool.and_eq_true, decide_eq_true_iff, decide_eq_true_iff]
  exact Iff.rfl

/-- Check 8 (R29). -/
theorem State.fittingBins_isEmpty_iff {s : State} {material v : Nat} :
    (s.fittingBins material v).isEmpty = true ↔ ∀ b, ¬ s.HasRoom material v b := by
  rw [List.isEmpty_iff, List.eq_nil_iff_forall_not_mem]
  simp only [State.mem_fittingBins]

open Classical in
/-- Checks 3 to 8 in their order (Table 2-4). -/
theorem State.checkClass_eq (s : State) (k : LaneId) (rep : Report) (c : TariffClass) :
    s.checkClass k rep c =
      if c.material = 0 then some .classOff
      else if ¬ s.MaterialOpen k c.material then some .materialClosed
      else if ¬ c.WeighsIn rep.weight then some .weight
      else if ¬ c.ShapeIn rep.shapeOk then some .shape
      else if ¬ s.CreditRoom k c.deposit then some .sessionFull
      else if ∀ b, ¬ s.HasRoom c.material c.volume b then some .materialFull
      else none := by
  unfold State.checkClass
  simp only [← State.materialOpen_iff, ← TariffClass.weighsIn_iff, ← TariffClass.not_shapeIn_iff, ← State.creditRoom_iff,
    ← State.fittingBins_isEmpty_iff, Bool.not_eq_true', Bool.not_eq_true]

/-- A report is accepted where every check passes. -/
theorem State.checkClass_eq_none_iff {s : State} {k : LaneId} {rep : Report} {c : TariffClass} :
    s.checkClass k rep c = none ↔
      c.material ≠ 0 ∧ s.MaterialOpen k c.material ∧ c.WeighsIn rep.weight ∧ c.ShapeIn rep.shapeOk ∧
        s.CreditRoom k c.deposit ∧ ∃ b, s.HasRoom c.material c.volume b := by
  rw [State.checkClass_eq]
  split_ifs <;> simp_all

/-- The class of an accepted report passes the checks (R24). -/
theorem State.checkClass_of_classify {s : State} {k : LaneId} {rep : Report} {cls : ClassId}
    (h : s.classify k rep = .ok cls) : s.checkClass k rep (s.recog.tariff cls) = none := by
  unfold State.classify at h
  split at h
  · cases h
  · split at h
    · cases h
    · split at h
      · cases h
      · cases h
        assumption

end Sys2Proof.Machine
end

section
/-! The money of a session while it is open (R38, R52): the in-transit figures are the number and the deposits of the attached
records, a lane without a session has its figures at 0, and the two credit limits hold. -/

namespace Sys2Proof.Machine

/-! ### The records of a lane in the transit queue (R52) -/

/-- The records of a queue that are attached to lane `k`'s session. -/
def attachedIn (k : LaneId) (q : List TransitRecord) : List TransitRecord := q.filter fun r => r.attached && r.lane == k

/-- The deposits of the records of a queue that are attached to lane `k`'s session. -/
def attachedCredit (k : LaneId) (q : List TransitRecord) : Nat := ((attachedIn k q).map TransitRecord.deposit).sum

theorem State.attachedTo_eq (s : State) (k : LaneId) : s.attachedTo k = attachedIn k s.transit := rfl

/-- A record is inserted somewhere and nothing else changes (R78). -/
theorem insertByDue_perm (e : Count) (r : TransitRecord) (q : List TransitRecord) : (insertByDue e r q).Perm (r :: q) := by
  induction q with
  | nil => exact .refl _
  | cons x rest ih =>
    unfold insertByDue
    split
    · exact (ih.cons x).trans (.swap r x rest)
    · exact .refl _

theorem attachedIn_cons (k : LaneId) (r : TransitRecord) (q : List TransitRecord) :
    attachedIn k (r :: q) = if r.attached = true ∧ r.lane = k then r :: attachedIn k q else attachedIn k q := by
  simp [attachedIn, List.filter_cons]

theorem attachedCredit_cons (k : LaneId) (r : TransitRecord) (q : List TransitRecord) :
    attachedCredit k (r :: q) = attachedCredit k q + if r.attached = true ∧ r.lane = k then r.deposit else 0 := by
  unfold attachedCredit
  rw [attachedIn_cons]
  split
  · rw [List.map_cons, List.sum_cons, Nat.add_comm]
  · rw [Nat.add_zero]

theorem attachedCount_cons (k : LaneId) (r : TransitRecord) (q : List TransitRecord) :
    (attachedIn k (r :: q)).length = (attachedIn k q).length + if r.attached = true ∧ r.lane = k then 1 else 0 := by
  rw [attachedIn_cons]
  split <;> simp

theorem attachedCount_insertByDue (k : LaneId) (e : Count) (r : TransitRecord) (q : List TransitRecord) :
    (attachedIn k (insertByDue e r q)).length =
      (attachedIn k q).length + if r.attached = true ∧ r.lane = k then 1 else 0 := by
  rw [← attachedCount_cons]
  exact ((insertByDue_perm e r q).filter _).length_eq

theorem attachedCredit_insertByDue (k : LaneId) (e : Count) (r : TransitRecord) (q : List TransitRecord) :
    attachedCredit k (insertByDue e r q) = attachedCredit k q + if r.attached = true ∧ r.lane = k then r.deposit else 0 := by
  rw [← attachedCredit_cons]
  exact (((insertByDue_perm e r q).filter _).map _).sum_eq

/-- Detaching a lane's records leaves the other lanes' (R52). -/
theorem attachedIn_detachAll (k j : LaneId) (q : List TransitRecord) :
    attachedIn j (detachAll k q) = if j = k then [] else attachedIn j q := by
  induction q with
  | nil => simp [attachedIn, detachAll]
  | cons r rest ih =>
    have htail : detachAll k (r :: rest) =
        (if r.lane == k then { r with attached := false } else r) :: detachAll k rest := rfl
    rw [htail, attachedIn_cons, attachedIn_cons, ih]
    by_cases hjk : j = k
    · by_cases hrk : r.lane = k <;> simp_all
    · by_cases hrk : r.lane = k
      · simp [hrk, hjk, Ne.symm hjk]
      · simp [hrk, hjk]

/-! ### The law of one lane -/

/-- A lane's in-transit figures against its attached records (R52), and its figures outside a session (Table 3-3). -/
def Lane.LedgerAgrees (l : Lane) (count credit : Nat) : Prop :=
  l.transitCount = count ∧ l.transitCredit = credit ∧
    (l.state.inSession = false → l.firmCredit = 0 ∧ l.firmCount = 0 ∧ l.transitCount = 0)

/-- The two credit limits of a lane with a given waiting claim (R38). -/
def Lane.WithinLimits (l : Lane) (claim : Option Claim) : Prop :=
  l.firmCredit + (l.transitCredit + (claim.map Claim.deposit).getD 0) ≤ Config.voucherCeiling ∧
    l.firmCount + (l.transitCount + if claim.isSome then 1 else 0) ≤ Config.containerLimit

/-- Lane `k`'s ledger. -/
def State.LedgerAgrees (s : State) (k : LaneId) : Prop :=
  (s.lane k).LedgerAgrees (attachedIn k s.transit).length (attachedCredit k s.transit)

/-- Lane `k`'s limits. -/
def State.WithinLimits (s : State) (k : LaneId) : Prop := (s.lane k).WithinLimits (s.claimOf k)

theorem State.transitFiguresAgree_iff {s : State} :
    s.TransitFiguresAgree ↔ (s.isUp = true → ∀ k, s.LedgerAgrees k) := Iff.rfl

theorem State.creditLimited_iff {s : State} : s.CreditLimited ↔ ∀ k, s.WithinLimits k := Iff.rfl

/-- A lane with all figures at 0 and no claim. -/
theorem Lane.withinLimits_zero {l : Lane} (hc : l.firmCredit = 0 ∧ l.firmCount = 0) (ht : l.transitCredit = 0 ∧ l.transitCount = 0) :
    l.WithinLimits none := by
  obtain ⟨hfc, hfn⟩ := hc
  obtain ⟨htc, htn⟩ := ht
  simp [Lane.WithinLimits, hfc, hfn, htc, htn]

/-- Losing the waiting claim keeps the limits. -/
theorem Lane.WithinLimits.dropped {l : Lane} {claim : Option Claim} (h : l.WithinLimits claim) : l.WithinLimits none := by
  obtain ⟨hcredit, hcount⟩ := h
  simp only [Lane.WithinLimits, Option.map_none, Option.getD_none, Option.isSome_none, Bool.false_eq_true, if_false]
  omega

/-- A lane with one in-transit record less, and with what of it became firm (R45, R46). -/
def Lane.recordLeaves (l : Lane) (deposit firm count : Nat) : Lane :=
  { l with transitCredit := l.transitCredit - deposit, transitCount := l.transitCount - 1
           firmCredit := l.firmCredit + firm, firmCount := l.firmCount + count }

/-! ### Changes at one lane -/

/-- The money of a corner: requests in flight, the ledgers of a part that is up, and the limits. -/
def State.MoneyAgrees (s : State) : Prop := s.ClaimsInFlight ∧ s.TransitFiguresAgree ∧ s.CreditLimited

/-- What the money laws read of every lane but `k` is the same. -/
structure State.MoneyMoved (s t : State) (k : LaneId) : Prop where
  up : t.isUp = s.isUp
  lane : ∀ j, j ≠ k → t.lane j = s.lane j
  claim : ∀ j, j ≠ k → t.claimOf j = s.claimOf j
  count : ∀ j, j ≠ k → (attachedIn j t.transit).length = (attachedIn j s.transit).length
  credit : ∀ j, j ≠ k → attachedCredit j t.transit = attachedCredit j s.transit

section
variable {s : State} (h : s.MoneyAgrees)
include h

theorem State.MoneyAgrees.flights : s.ClaimsInFlight := h.1
theorem State.MoneyAgrees.ledger (hup : s.isUp = true) (k : LaneId) : s.LedgerAgrees k := h.2.1 hup k
theorem State.MoneyAgrees.limits (k : LaneId) : s.WithinLimits k := h.2.2 k

theorem State.MoneyAgrees.moved {t : State} {k : LaneId} (hc : t.ClaimsInFlight) (hm : s.MoneyMoved t k)
    (hledger : s.isUp = true → t.LedgerAgrees k) (hlimits : t.WithinLimits k) : t.MoneyAgrees := by
  refine ⟨hc, fun hup j => ?_, fun j => ?_⟩
  · rw [hm.up] at hup
    by_cases hj : j = k
    · subst hj; exact hledger hup
    · have hold := h.ledger hup j
      unfold State.LedgerAgrees at hold
      rw [← hm.lane j hj, ← hm.count j hj, ← hm.credit j hj] at hold
      exact hold
  · by_cases hj : j = k
    · subst hj; exact hlimits
    · have hold := h.limits j
      unfold State.WithinLimits at hold
      rw [← hm.lane j hj, ← hm.claim j hj] at hold
      exact hold

/-- The bins, links and marks are no part of the law. -/
theorem State.MoneyAgrees.congr {t : State} (hc : t.ClaimsInFlight) (hup : t.isUp = s.isUp) (hlanes : t.lanes = s.lanes)
    (hclaims : t.merge.claims = s.merge.claims) (htransit : t.transit = s.transit) : t.MoneyAgrees := by
  have hlane : ∀ j, t.lane j = s.lane j := fun j => by rw [State.lane, hlanes, ← State.lane]
  have hclaim : ∀ j, t.claimOf j = s.claimOf j := fun j => by rw [State.claimOf, hclaims, ← State.claimOf]
  refine h.moved (k := 0) hc ⟨hup, fun j _ => hlane j, fun j _ => hclaim j, fun j _ => by rw [htransit],
    fun j _ => by rw [htransit]⟩ (fun hup => ?_) ?_
  · unfold State.LedgerAgrees
    rw [hlane, htransit]
    exact h.ledger hup 0
  · unfold State.WithinLimits
    rw [hlane, hclaim]
    exact h.limits 0

theorem State.MoneyAgrees.alike {t : State} (ha : s.Alike t) : t.MoneyAgrees :=
  h.congr (h.flights.alike ha) ha.isUp ha.lanes ha.claims ha.transit

/-- A refused claim leaves less to the limits (R43). -/
theorem State.MoneyAgrees.refuseClaim {k : LaneId} (hw : (s.claimOf k).isSome = true) (reason : Reason) :
    (s.refuseClaim k reason).MoneyAgrees := by
  have hclaim := State.claimOf_of_filter (s := s) (t := s.refuseClaim k reason) (k := k) rfl
  refine h.moved (h.flights.refuseClaim hw reason)
    ⟨by simp, fun _ _ => rfl, fun j hj => by rw [hclaim, if_neg hj], fun _ _ => rfl, fun _ _ => rfl⟩
    (fun hup => h.ledger hup k) ?_
  unfold State.WithinLimits
  rw [hclaim, if_pos rfl]
  exact Lane.WithinLimits.dropped (h.limits k)

/-- A grant moves the claim's deposit into transit (R42). -/
theorem State.MoneyAgrees.grant {c : Claim} (hc : c ∈ s.merge.claims) (b : BinId) : (s.grant c b).MoneyAgrees := by
  have hwaiting := State.claimOf_of_mem h.flights.nodup hc
  have hclaim := State.claimOf_of_filter (s.grant_claims c b)
  have hlane : (s.grant c b).lane c.lane = { s.lane c.lane with
      transitCredit := (s.lane c.lane).transitCredit + c.deposit
      transitCount := (s.lane c.lane).transitCount + 1 } := by rw [State.grant_lane, if_pos rfl]
  refine h.moved (h.flights.grant hc b)
    ⟨by simp, fun j hj => by rw [State.grant_lane, if_neg hj], fun j hj => by rw [hclaim, if_neg hj], fun j hj => ?_,
      fun j hj => ?_⟩ (fun hup => ?_) ?_
  · rw [State.grant_transit, attachedCount_insertByDue, if_neg (fun hr => hj hr.2.symm), Nat.add_zero]
  · rw [State.grant_transit, attachedCredit_insertByDue, if_neg (fun hr => hj hr.2.symm), Nat.add_zero]
  · obtain ⟨hcount, hcredit, _⟩ := h.ledger hup c.lane
    have hactive := (h.flights.of_waiting (k := c.lane) (by rw [hwaiting]; rfl)).2
    unfold State.LedgerAgrees
    rw [hlane, State.grant_transit, attachedCount_insertByDue, attachedCredit_insertByDue, if_pos ⟨rfl, rfl⟩,
      if_pos ⟨rfl, rfl⟩]
    refine ⟨congrArg (· + 1) hcount, congrArg (· + c.deposit) hcredit, fun hout => ?_⟩
    have hst : (s.lane c.lane).state.inSession = false := hout
    rw [hactive] at hst
    cases hst
  · obtain ⟨hcredit, hcount⟩ := h.limits c.lane
    unfold State.WithinLimits
    rw [hclaim, if_pos rfl, hlane]
    rw [hwaiting] at hcredit hcount
    simp only [Option.map_some, Option.getD_some, Option.isSome_some, if_true] at hcredit hcount
    simp only [Lane.WithinLimits, Option.map_none, Option.getD_none, Option.isSome_none, Bool.false_eq_true, if_false]
    omega

theorem State.MoneyAgrees.decideClaim {c : Claim} (hc : c ∈ s.merge.claims) : (s.decideClaim c).MoneyAgrees := by
  obtain hd | ⟨b, _, _, hd⟩ | hd := s.decideClaim_cases c <;> rw [hd]
  · exact h
  · exact h.grant hc b
  · exact h.refuseClaim (by rw [State.claimOf_of_mem h.flights.nodup hc]; rfl) _

/-- A close of a lane without a claim leaves it without figures and without attached records (R49, R52). -/
theorem State.MoneyAgrees.closed {t : State} {k : LaneId} (hc : t.ClaimsInFlight) (hw : (s.claimOf k).isSome = false)
    (hup : t.isUp = s.isUp) (hlane : ∀ j, j ≠ k → t.lane j = s.lane j) (hclosed : ∃ parks r, t.lane k = .afterClose parks r)
    (hclaims : t.merge.claims = s.merge.claims) (htransit : t.transit = detachAll k s.transit) : t.MoneyAgrees := by
  have hclaim : ∀ j, t.claimOf j = s.claimOf j := fun j => by rw [State.claimOf, hclaims, ← State.claimOf]
  obtain ⟨parks, r, hclosed⟩ := hclosed
  refine h.moved hc ⟨hup, hlane, fun j _ => hclaim j, fun j hj => ?_, fun j hj => ?_⟩ (fun _ => ?_) ?_
  · rw [htransit, attachedIn_detachAll, if_neg hj]
  · rw [htransit, attachedCredit, attachedIn_detachAll, if_neg hj, attachedCredit]
  · unfold State.LedgerAgrees attachedCredit
    rw [hclosed, htransit, attachedIn_detachAll, if_pos rfl]
    exact ⟨rfl, rfl, fun _ => ⟨rfl, rfl, rfl⟩⟩
  · have hnone : s.claimOf k = none := by simpa using hw
    unfold State.WithinLimits
    rw [hclosed, hclaim, hnone]
    exact Lane.withinLimits_zero ⟨rfl, rfl⟩ ⟨rfl, rfl⟩

/-- A close after a change of the lane's figures that leaves its claim and its state (R49 to R53). -/
theorem State.MoneyAgrees.closeSession {k : LaneId} {x : Lane} (hx : x.state = (s.lane k).state)
    (hw : (s.claimOf k).isSome = false) (power : Bool) : ((s.setLane k x).closeSession k power).MoneyAgrees := by
  refine h.closed (k := k) (State.ClaimsInFlight.closeSession (h.flights.setLane hx) hw power) hw (by simp) (fun j hj => ?_)
    ⟨_, _, by rw [State.closeSession_lane, if_pos rfl]⟩ (by simp) (by simp)
  rw [State.closeSession_lane, if_neg hj, State.lane_setLane_ne _ hj]

theorem State.MoneyAgrees.closeIfSettled (k : LaneId) : (s.closeIfSettled k).MoneyAgrees := by
  unfold State.closeIfSettled
  split
  next hst => exact h.closeSession (x := { s.lane k with unconfirmedCredit := 0, unconfirmedCount := 0 }) rfl (h.flights.of_settling hst.1).2 false
  next => exact h

/-- The head of the queue is resolved for its session: the record and its deposit leave the in-transit figures together
(R45, R46). -/
theorem State.MoneyAgrees.resolved {t : State} {r : TransitRecord} {rest : List TransitRecord} {firm count : Nat}
    (hup : s.isUp = true) (hhead : s.transit = r :: rest) (hattached : r.attached = true) (hc : t.ClaimsInFlight)
    (hup' : t.isUp = s.isUp) (hlanes : t.lanes = s.lanes) (hclaims : t.merge.claims = s.merge.claims)
    (htransit : t.transit = rest) (hfirm : firm ≤ r.deposit) (hcount : count ≤ 1) :
    (t.setLane r.lane ((t.lane r.lane).recordLeaves r.deposit firm count)).MoneyAgrees := by
  have hlane : ∀ j, t.lane j = s.lane j := fun j => by rw [State.lane, hlanes, ← State.lane]
  have hclaim : ∀ j, t.claimOf j = s.claimOf j := fun j => by rw [State.claimOf, hclaims, ← State.claimOf]
  obtain ⟨hledgerCount, hledgerCredit, hout⟩ := h.ledger hup r.lane
  rw [hhead, attachedCount_cons, if_pos ⟨hattached, rfl⟩] at hledgerCount
  rw [hhead, attachedCredit_cons, if_pos ⟨hattached, rfl⟩] at hledgerCredit
  refine h.moved (k := r.lane) (hc.setLane rfl) ⟨hup', fun j hj => ?_, fun j _ => hclaim j, fun j hj => ?_, fun j hj => ?_⟩ (fun _ => ?_) ?_
  · rw [State.lane_setLane_ne _ hj, hlane]
  · rw [State.setLane_transit, htransit, hhead, attachedCount_cons, if_neg (fun hr => hj hr.2.symm), Nat.add_zero]
  · rw [State.setLane_transit, htransit, hhead, attachedCredit_cons, if_neg (fun hr => hj hr.2.symm), Nat.add_zero]
  · unfold State.LedgerAgrees
    rw [State.lane_setLane_self, State.setLane_transit, htransit, hlane, Lane.recordLeaves]
    refine ⟨?_, ?_, fun hst => ?_⟩
    · simp only; omega
    · simp only; omega
    · have := (hout hst).2.2
      omega
  · obtain ⟨hcredit, hcnt⟩ := h.limits r.lane
    unfold State.WithinLimits
    rw [State.lane_setLane_self, State.setLane_claimOf, hclaim, hlane, Lane.recordLeaves]
    constructor
    · simp only; omega
    · simp only; omega

/-- A record of no session leaves the queue. -/
theorem State.MoneyAgrees.orphanLeaves {t : State} {r : TransitRecord} {rest : List TransitRecord}
    (hhead : s.transit = r :: rest) (horphan : r.attached = false) (hc : t.ClaimsInFlight)
    (hup' : t.isUp = s.isUp) (hlanes : t.lanes = s.lanes) (hclaims : t.merge.claims = s.merge.claims)
    (htransit : t.transit = rest) : t.MoneyAgrees := by
  have hlane : ∀ j, t.lane j = s.lane j := fun j => by rw [State.lane, hlanes, ← State.lane]
  have hclaim : ∀ j, t.claimOf j = s.claimOf j := fun j => by rw [State.claimOf, hclaims, ← State.claimOf]
  have hattached : ∀ j, attachedIn j s.transit = attachedIn j t.transit := fun j => by
    rw [hhead, htransit, attachedIn_cons, if_neg (by simp [horphan])]
  refine h.moved (k := 0) hc ⟨hup', fun j _ => hlane j, fun j _ => hclaim j, fun j _ => by rw [hattached],
    fun j _ => by rw [attachedCredit, attachedCredit, hattached]⟩ (fun hup => ?_) ?_
  · have hold := h.ledger hup 0
    unfold State.LedgerAgrees attachedCredit at hold ⊢
    rw [hlane, ← hattached]
    exact hold
  · have hold := h.limits 0
    unfold State.WithinLimits at hold ⊢
    rw [hlane, hclaim]
    exact hold

end

/-! ### The law, part by part -/

theorem moneyAgrees_gate : GateLaw State.MoneyAgrees where
  alike ha h := h.alike ha
  pass hup h := State.mergePass_keeps (fun _ _ _ hc _ ht => ht.decideClaim hc) hup h.flights.nodup h
  matchHead {s r rest} hup hhead h := by
    rw [State.matchHead_eq]
    refine State.MoneyAgrees.alike ?_ (State.alike_setTotals _ _)
    have hconfirmed := h.flights.headConfirmed r rest
    unfold State.confirmCredit
    split
    next hattached =>
      exact State.MoneyAgrees.closeIfSettled (h.resolved hup hhead hattached hconfirmed (by simp) (by simp) (by simp) (by simp)
        (firm := r.deposit) (count := 1) le_rfl le_rfl) _
    next horphan => exact h.orphanLeaves hhead (by simpa using horphan) hconfirmed (by simp) (by simp) (by simp) (by simp)
  missHead {s r rest} hup hhead h := by
    rw [State.missHead_eq]
    refine State.MoneyAgrees.alike ?_ (State.alike_setTotals _ _)
    have hreleased := h.flights.headReleased r rest
    unfold State.loseCredit
    split
    next hattached =>
      exact State.MoneyAgrees.closeIfSettled (State.MoneyAgrees.alike
        (h.resolved hup hhead hattached hreleased (by simp) (by simp) (by simp) (by simp) (firm := 0) (count := 0)
          (Nat.zero_le _) (Nat.zero_le _)) (State.alike_raise _ _ _)) _
    next horphan =>
      exact State.MoneyAgrees.alike (h.orphanLeaves hhead (by simpa using horphan) hreleased (by simp) (by simp) (by simp)
        (by simp)) (State.alike_setTotals _ _)

theorem State.recoverLane_lane (s : State) (k j : LaneId) :
    (s.recoverLane k).lane j = if j = k then .cold else s.lane j := by
  simp only [State.recoverLane]
  split
  · rw [State.lane_setLane]
    rfl
  · rw [State.lane_setLane]

/-- After the recoveries of a warm start every lane context is cold (R149). -/
theorem State.recoverLanes_four_lane (s : State) (k : LaneId) : (s.recoverLanes 4).lane k = .cold := by
  have hfold : s.recoverLanes 4 = State.recoverLane (State.recoverLane (State.recoverLane (State.recoverLane
    { s with supply := { s.supply with recovered := 0 } } 0) 1) 2) 3 := rfl
  rw [hfold]
  simp only [State.recoverLane_lane]
  fin_cases k
  all_goals rfl

theorem State.warmWork_lane (s : State) (k : LaneId) : s.warmWork.lane k = .cold := by
  have h := s.loseVolatile.recoverLanes_four_lane k
  unfold State.warmWork
  generalize s.loseVolatile.recoverLanes 4 = u at h ⊢
  exact h

/-- The limits of a corner without claims whose lanes keep their figures or are cold (R37, R146). -/
theorem State.creditLimited_of_kept {s t : State} (h : s.CreditLimited) (hclaims : t.merge.claims = [])
    (hlane : ∀ k, t.lane k = (s.lane k).retained ∨ t.lane k = .cold) : t.CreditLimited := by
  refine State.creditLimited_iff.mpr fun k => ?_
  have hnone : t.claimOf k = none := by rw [State.claimOf, hclaims]; rfl
  unfold State.WithinLimits
  rw [hnone]
  obtain hk | hk := hlane k <;> rw [hk]
  · exact Lane.WithinLimits.dropped (claim := s.claimOf k) (State.creditLimited_iff.mp h k)
  · exact Lane.withinLimits_zero ⟨rfl, rfl⟩ ⟨rfl, rfl⟩

/-- A start leaves every lane cold, without claims and without records (R37). -/
theorem State.moneyAgrees_of_cold {s : State} (hflights : s.ClaimsInFlight) (hclaims : s.merge.claims = [])
    (htransit : s.transit = []) (hlane : ∀ k, s.lane k = .cold) : s.MoneyAgrees := by
  refine ⟨hflights, fun _ k => ?_, State.creditLimited_iff.mpr fun k => ?_⟩
  · rw [State.attachedTo_eq, hlane, htransit]
    exact ⟨rfl, rfl, fun _ => ⟨rfl, rfl, rfl⟩⟩
  · have hnone : s.claimOf k = none := by rw [State.claimOf, hclaims]; rfl
    unfold State.WithinLimits
    rw [hnone, hlane]
    exact Lane.withinLimits_zero ⟨rfl, rfl⟩ ⟨rfl, rfl⟩

/-- A part that is down has no claims, and its retained figures are within the limits. -/
theorem State.moneyAgrees_of_down {s t : State} (h : s.CreditLimited) (hflights : t.ClaimsInFlight) (hdown : t.isUp = false)
    (hclaims : t.merge.claims = []) (hlane : ∀ k, t.lane k = (s.lane k).retained ∨ t.lane k = .cold) : t.MoneyAgrees :=
  ⟨hflights, fun hup => Bool.noConfusion (hdown.symm.trans hup), State.creditLimited_of_kept h hclaims hlane⟩

theorem State.loseVolatile_lane (s : State) (k : LaneId) : s.loseVolatile.lane k = (s.lane k).retained :=
  getElem_mapAll _ _ _ _

/-- A lane that is not in a session has no attached record (R52). -/
theorem State.MoneyAgrees.unattached {s : State} (h : s.MoneyAgrees) (hup : s.isUp = true) {k : LaneId}
    (hst : (s.lane k).state.inSession = false) : attachedIn k s.transit = [] := by
  obtain ⟨hcount, _, hout⟩ := h.ledger hup k
  exact List.length_eq_zero_iff.mp (hcount.symm.trans (hout hst).2.2)

/-- A lane without claim changes to one with the same figures, or to one with none outside a session. -/
theorem State.MoneyAgrees.relabel {s : State} (h : s.MoneyAgrees) {k : LaneId} {x : Lane}
    (hc : (s.setLane k x).ClaimsInFlight) (hfirm : x.firmCredit = (s.lane k).firmCredit ∧ x.firmCount = (s.lane k).firmCount)
    (htransit : x.transitCredit = (s.lane k).transitCredit ∧ x.transitCount = (s.lane k).transitCount)
    (hst : x.state.inSession = false → (s.lane k).state.inSession = false) : (s.setLane k x).MoneyAgrees := by
  obtain ⟨hfc, hfn⟩ := hfirm
  obtain ⟨htc, htn⟩ := htransit
  refine h.moved (k := k) hc ⟨rfl, fun j hj => State.lane_setLane_ne s hj x, fun _ _ => rfl, fun _ _ => rfl, fun _ _ => rfl⟩
    (fun hup => ?_) ?_
  · obtain ⟨hcount, hcredit, hout⟩ := h.ledger hup k
    unfold State.LedgerAgrees Lane.LedgerAgrees
    rw [State.lane_setLane_self, hfc, hfn, htc, htn]
    exact ⟨hcount, hcredit, fun hx => hout (hst hx)⟩
  · have hold := h.limits k
    unfold State.WithinLimits Lane.WithinLimits at hold ⊢
    rw [State.lane_setLane_self, State.setLane_claimOf, hfc, hfn, htc, htn]
    exact hold

theorem State.MoneyAgrees.sessionOpened {s : State} (h : s.MoneyAgrees) (hup : s.isUp = true) {k : LaneId}
    (hst : (s.lane k).state = .ready) (i : SlotId) (rest : List SlotId) : (s.sessionOpened k i rest).MoneyAgrees := by
  have hout : (s.lane k).state.inSession = false := by rw [hst]; rfl
  have hempty := h.unattached hup hout
  have hnone : s.claimOf k = none := by simpa using (h.flights.of_not_inSession hout).2
  have hlane : (s.sessionOpened k i rest).lane k =
      { Lane.cold with state := .active, slot := some i, parkPending := (s.lane k).parkPending } := State.lane_setLane_self _ _ _
  refine h.moved (k := k) (h.flights.sessionOpened hst i rest)
    ⟨rfl, fun j hj => State.lane_setLane_ne _ hj _, fun _ _ => rfl, fun _ _ => rfl, fun _ _ => rfl⟩ (fun _ => ?_) ?_
  · have htransit : (s.sessionOpened k i rest).transit = s.transit := rfl
    unfold State.LedgerAgrees attachedCredit
    rw [hlane, htransit, hempty]
    exact ⟨rfl, rfl, fun _ => ⟨rfl, rfl, rfl⟩⟩
  · have hclaim : (s.sessionOpened k i rest).claimOf k = none := hnone
    unfold State.WithinLimits
    rw [hclaim, hlane]
    exact Lane.withinLimits_zero ⟨rfl, rfl⟩ ⟨rfl, rfl⟩

/-- An accepted container fits the credit limits (R28, R38). -/
theorem State.MoneyAgrees.claimJoined {s : State} (h : s.MoneyAgrees) {k : LaneId} {cls : ClassId}
    (hf : (s.port (.lane k)).inFlight = none) (hst : (s.lane k).state = .active)
    (hroom : s.CreditRoom k (s.recog.tariff cls).deposit) : (s.claimJoined k cls).MoneyAgrees := by
  have hclaim : ∀ j, (s.claimJoined k cls).claimOf j =
      (s.claimOf j).or (if k = j then some (s.newClaim k cls) else none) := s.claimOf_joinClaim (s.newClaim k cls)
  have hnone : s.claimOf k = none := by simpa using (h.flights.of_flight_none hf).1
  refine h.moved (k := k) (h.flights.claimJoined hf hst cls)
    ⟨rfl, fun _ _ => rfl, fun j hj => by rw [hclaim, if_neg (Ne.symm hj), Option.or_none], fun _ _ => rfl, fun _ _ => rfl⟩
    (fun hup => h.ledger hup k) ?_
  have hlane : (s.claimJoined k cls).lane k = s.lane k := rfl
  have hdeposit : (s.newClaim k cls).deposit = (s.recog.tariff cls).deposit := rfl
  obtain ⟨hcredit, hcount⟩ := hroom
  unfold State.provisionalCredit at hcredit
  unfold State.provisionalCount at hcount
  unfold State.WithinLimits Lane.WithinLimits Config.voucherCeiling Config.containerLimit
  rw [hclaim, hlane, hnone, if_pos rfl]
  rw [hnone] at hcredit hcount
  simp only [Option.map_none, Option.getD_none, Option.isSome_none, Bool.false_eq_true, if_false] at hcredit hcount
  simp only [Option.none_or, Option.map_some, Option.getD_some, Option.isSome_some, if_true, hdeposit]
  omega

theorem Lane.atApply_figures (l : Lane) (mode : LaneMode) :
    ((l.atApply mode).firmCredit = l.firmCredit ∧ (l.atApply mode).firmCount = l.firmCount) ∧
      ((l.atApply mode).transitCredit = l.transitCredit ∧ (l.atApply mode).transitCount = l.transitCount) := by
  unfold Lane.atApply
  split <;> exact ⟨⟨rfl, rfl⟩, rfl, rfl⟩

theorem State.MoneyAgrees.applyLane {s : State} (h : s.MoneyAgrees) (k : LaneId) : (s.applyLane k).MoneyAgrees := by
  have hset : (s.setLane k ((s.lane k).atApply (s.lanePart k).mode)).MoneyAgrees := by
    obtain ⟨hfirm, htransit⟩ := (s.lane k).atApply_figures (s.lanePart k).mode
    obtain hst | ⟨hold, hnew⟩ := (s.lane k).atApply_state (s.lanePart k).mode
    · exact h.relabel (h.flights.setLane hst) hfirm htransit (by rw [hst]; exact id)
    · exact h.relabel (h.flights.setIdleLane hold hnew) hfirm htransit fun _ => hold
  simp only [State.applyLane]
  split
  · exact hset
  · exact hset.alike (State.alike_raise _ _ _)

theorem State.MoneyAgrees.applied {s : State} (h : s.MoneyAgrees) : s.appliedParts.reevaluated.MoneyAgrees := by
  have hparts : s.appliedParts.MoneyAgrees :=
    State.appliedParts_keeps (P := State.MoneyAgrees) h (fun t k ht => ht.applyLane k) (fun t b ht => ht)
      fun t b ht => ht.congr (ht.flights.congr (by simp) (by simp) (by simp) (by simp)) (by simp) (by simp) (by simp) (by simp)
  exact hparts.congr (hparts.flights.congr (by simp [State.reevaluated]) (by simp [State.reevaluated])
    (by simp [State.reevaluated]) (by simp [State.reevaluated])) (by simp) (by simp [State.reevaluated])
    (by simp [State.reevaluated]) (by simp [State.reevaluated])

/-- The lane of a close that counts its in-transit figures as unconfirmed (R51, R53). -/
theorem State.unconfirmed_state (s : State) (k : LaneId) :
    ({ s.lane k with unconfirmedCredit := (s.lane k).transitCredit, unconfirmedCount := (s.lane k).transitCount } : Lane).state =
      (s.lane k).state := rfl

theorem State.MoneyAgrees.supplyClose {s : State} (h : s.MoneyAgrees) {k : LaneId} (hw : (s.claimOf k).isSome = false) :
    (s.supplyClose k).MoneyAgrees := by
  exact h.closeSession (s.unconfirmed_state k) hw true

theorem State.MoneyAgrees.holdUpLane {s : State} (h : s.MoneyAgrees) (k : LaneId) : (s.holdUpLane k).MoneyAgrees := by
  unfold State.holdUpLane
  split
  next hst =>
    split
    next hw =>
      refine (h.refuseClaim hw .power).supplyClose ?_
      rw [State.claimOf_of_filter (s := s) (t := s.refuseClaim k .power) rfl, if_pos rfl]
      rfl
    next hw => exact h.supplyClose (by simpa using hw)
  next hst => exact h.supplyClose (h.flights.of_settling hst).2
  next hst =>
    have hout : (s.lane k).state.inSession = false := by rw [hst]; rfl
    exact State.MoneyAgrees.alike (h.relabel (x := { s.lane k with state := .parked, parkPending := false })
      (h.flights.setIdleLane hout rfl) ⟨rfl, rfl⟩ ⟨rfl, rfl⟩ fun _ => hout) (State.alike_raise _ _ _)
  next => exact h

/-- The claims that a timebase step leaves are those it found, but for their timers. -/
theorem State.advanceTimers_claimOf (s : State) (k : LaneId) :
    s.advanceTimers.claimOf k = (s.claimOf k).map Claim.tick := by
  simp only [State.claimOf, State.advanceTimers, List.find?_map]
  rfl

/-- The recoveries of a start that is cut short leave every lane cold or as the loss of supply left it (R146). -/
theorem State.recoverLanes_lost_lane (s : State) (n : Nat) (k : LaneId) :
    (s.loseVolatile.recoverLanes n).lane k = (s.lane k).retained ∨ (s.loseVolatile.recoverLanes n).lane k = .cold := by
  refine foldl_lanes_keeps (P := fun t => t.lane k = (s.lane k).retained ∨ t.lane k = .cold) (fun t j ht => ?_)
    (s := { s.loseVolatile with supply := { s.loseVolatile.supply with recovered := 0 } }) (.inl (s.loseVolatile_lane k)) _
  rw [State.recoverLane_lane]
  split
  · exact .inr rfl
  · exact ht

/-- A phase other than running is a part that is down. -/
theorem State.isUp_setPhase_of_ne (s : State) {p : Phase} (h : p ≠ .running) : (s.setPhase p).isUp = false := by
  cases p with
  | running => exact absurd rfl h
  | inReset => rfl
  | supplyLost => rfl

theorem moneyAgrees_law : PartLaw State.MoneyAgrees State.MoneyAgrees where
  weaken := id
  alike ha h := h.alike ha
  alikeAfter ha h := h.alike ha
  respond {s} l r _ h := h.congr (h.flights.respond l r) rfl rfl rfl rfl
  pass := moneyAgrees_gate.pass
  timers {s} hup h := by
    refine ⟨claimsInFlight_law.timers hup h.flights, fun hup k => ?_, State.creditLimited_iff.mpr fun k => ?_⟩
    · rw [State.advanceTimers_lane]
      exact h.ledger hup k
    · have hold := h.limits k
      unfold State.WithinLimits at hold ⊢
      rw [State.advanceTimers_claimOf, State.advanceTimers_lane]
      unfold Lane.WithinLimits at hold ⊢
      rw [Option.isSome_map, Option.map_map]
      exact hold
  pulse order hup h := moneyAgrees_gate.pulse hup h order
  edge := moneyAgrees_gate.takeEdge
  pulseWithEdge order hup h := moneyAgrees_gate.pulseWithEdge hup h order
  openSession k i rest hup hst _ h := h.sessionOpened hup hst i rest
  join {s} k rep cls _ hf _ hst hcls h := by
    obtain ⟨_, _, _, _, hroom, _⟩ := State.checkClass_eq_none_iff.mp (State.checkClass_of_classify hcls)
    exact h.claimJoined hf hst hroom
  refuseClaim k reason _ hw h := by
    refine h.refuseClaim (hw.elim id fun hf => ?_) reason
    exact (h.flights.atLane k).1.mp hf
  endAtOnce {s} k hup hf hq hst hcount h := by
    refine h.closed (k := k) (claimsInFlight_law.endAtOnce k hup hf hq hst hcount h.flights) (h.flights.of_flight_none hf).1
      (by simp) (fun j hj => ?_) ⟨_, _, by rw [State.ordinaryClose, State.closeSession_lane, if_pos rfl]⟩ (by simp) ?_
    · rw [State.ordinaryClose, State.closeSession_lane, if_neg hj, State.lane_setLane_ne _ hj]
      rfl
    · rw [State.ordinaryClose, State.closeSession_transit]
      rfl
  beginSettling {s} k hup hf hq hst hcount h := by
    have hlane : (s.beginSettling k).lane k =
        { s.lane k with state := .settling, settle := some { elapsed := 0, limit := s.corner.settleLimit } } :=
      State.lane_setLane_self _ _ _
    refine h.moved (k := k) (claimsInFlight_law.beginSettling k hup hf hq hst hcount h.flights)
      ⟨rfl, fun j hj => State.lane_setLane_ne _ hj _, fun _ _ => rfl, fun _ _ => rfl, fun _ _ => rfl⟩ (fun hup => ?_) ?_
    · obtain ⟨hcnt, hcredit, _⟩ := h.ledger hup k
      unfold State.LedgerAgrees
      rw [hlane]
      exact ⟨hcnt, hcredit, fun hout => nomatch hout⟩
    · have hold := h.limits k
      unfold State.WithinLimits at hold ⊢
      rw [hlane]
      exact hold
  limitClose {s} k _ hst h := h.closeSession (s.unconfirmed_state k) (h.flights.of_settling hst).2 false
  rewrite _ _ _ _ _ h := h
  remove _ _ _ _ h := h
  release _ _ _ _ h := h
  returnBin _ _ _ h := h
  apply _ _ h := h.applied
  holdUpLane k _ h := h.holdUpLane k
  parkModes _ h := h
  lose {s} p hp h := State.moneyAgrees_of_down h.2.2 s.blanked_loseVolatile.claimsInFlight (State.isUp_setPhase_of_ne _ hp) rfl
    fun k => .inl (s.loseVolatile_lane k)
  cut {s} n h := State.moneyAgrees_of_down h.2.2 (s.blanked_loseVolatile.recoverLanes n).claimsInFlight rfl
    (s.blanked_loseVolatile.recoverLanes n).claims (s.recoverLanes_lost_lane n)
  warm {s} cause lines h := State.moneyAgrees_of_cold (claimsInFlight_law.warm cause lines h.flights)
    s.blanked_warmWork.claims s.blanked_warmWork.transit s.warmWork_lane
  cold {s} lines h := State.moneyAgrees_of_cold (claimsInFlight_law.cold lines h.flights) rfl rfl s.coldWork_lane

/-- Settles O58: every part of a step keeps the money of the corner (`moneyAgrees_law`). -/
theorem stepKeepsCredit : Obligations.StepKeepsCredit := by
  intro s t hflights hledger hlimits hstep
  obtain ⟨_, hledger', hlimits'⟩ := moneyAgrees_law.step hstep ⟨hflights, hledger, hlimits⟩
  exact ⟨hledger', hlimits'⟩

end Sys2Proof.Machine
end

section
/-! The laws of the bins (R100): a bin holds no more than its capacity, its reserved fill is the volume that the transit queue
has promised to it, and a bin that is OUT or RELEASED has nothing reserved. -/

namespace Sys2Proof.Machine

/-! ### What the transit queue has promised to a bin -/

/-- The volume that a queue has promised to bin `b`. -/
def promisedIn (b : BinId) (q : List TransitRecord) : Nat :=
  ((q.filter fun r => r.bin == b).map TransitRecord.volume).sum

theorem promisedIn_cons (b : BinId) (r : TransitRecord) (q : List TransitRecord) :
    promisedIn b (r :: q) = promisedIn b q + if r.bin = b then r.volume else 0 := by
  by_cases h : r.bin = b <;> simp [promisedIn, h, Nat.add_comm]

theorem promisedIn_insertByDue (b : BinId) (e : Count) (r : TransitRecord) (q : List TransitRecord) :
    promisedIn b (insertByDue e r q) = promisedIn b q + if r.bin = b then r.volume else 0 := by
  rw [← promisedIn_cons]
  exact (((insertByDue_perm e r q).filter _).map _).sum_eq

/-- Detaching touches no promise (R52). -/
theorem promisedIn_detachAll (b : BinId) (k : LaneId) (q : List TransitRecord) :
    promisedIn b (detachAll k q) = promisedIn b q := by
  induction q with
  | nil => rfl
  | cons r rest ih =>
    have htail : detachAll k (r :: rest) =
        (if r.lane == k then { r with attached := false } else r) :: detachAll k rest := rfl
    rw [htail, promisedIn_cons, promisedIn_cons, ih]
    split <;> rfl

theorem State.promised_eq (s : State) (b : BinId) : s.promised b = promisedIn b s.transit := rfl

/-! ### The law of one bin -/

/-- A bin's laws against the volume promised to it; the last three are of a part that is up (R100, Table 6-2). -/
def Bin.KeepsLaws (r : Bin) (up : Bool) (promised : Nat) : Prop :=
  r.sum ≤ r.capacity ∧
    (up = true → r.reserved = promised ∧ (r.state = .out ∨ r.state = .released → r.reserved = 0) ∧
      ∀ t : DrainTarget, r.state = .draining t → 0 < r.reserved)

theorem State.binsKeepLaws_iff {s : State} :
    s.BinsKeepLaws ↔ ∀ b, (s.bin b).KeepsLaws s.isUp (promisedIn b s.transit) := Iff.rfl

theorem DrainTarget.state_idle (t : DrainTarget) : t.state = .out ∨ t.state = .released := by
  cases t
  · exact .inl rfl
  · exact .inr rfl

/-- A bin that a drain leaves idle was idle, or has nothing reserved (R108). -/
theorem Bin.idle_of_drained {r : Bin} {n : Nat} (h : r.drained n = .out ∨ r.drained n = .released) :
    (r.state = .out ∨ r.state = .released) ∨ n = 0 := by
  unfold Bin.drained at h
  split at h
  · split at h
    · exact .inr ‹_›
    · simp at h
  · split at h
    · exact .inr ‹_›
    · simp at h
  · exact .inl h

/-- A bin that still drains has something reserved (R108). -/
theorem Bin.pos_of_drained {r : Bin} {n : Nat} {t : DrainTarget} (h : r.drained n = .draining t) : 0 < n := by
  unfold Bin.drained at h
  split at h
  · split at h
    · cases h
    · exact Nat.pos_of_ne_zero ‹_›
  · split at h
    · cases h
    · exact Nat.pos_of_ne_zero ‹_›
  next hout hreleased => cases t <;> contradiction

/-- A promise that is taken back, or that becomes confirmed fill, leaves a bin with its laws (R90, R91, R108). -/
theorem Bin.KeepsLaws.drained {r : Bin} {promised v added items : Nat} (h : r.KeepsLaws true (promised + v)) (hadded : added ≤ v) :
    Bin.KeepsLaws { r with reserved := r.reserved - v, confirmed := r.confirmed + added, items := items
                           state := r.drained (r.reserved - v) } true promised := by
  obtain ⟨hsum, hup⟩ := h
  obtain ⟨hreserved, hidle, _⟩ := hup rfl
  unfold Bin.sum at hsum
  refine ⟨?_, fun _ => ⟨?_, fun hst => ?_, fun t hst => ?_⟩⟩
  · simp only [Bin.sum]; omega
  · simp only; omega
  · obtain hidle' | hzero := Bin.idle_of_drained hst
    · have := hidle hidle'
      simp only; omega
    · exact hzero
  · exact Bin.pos_of_drained hst

/-- A promise added to a bin with room. -/
theorem Bin.KeepsLaws.reserved {r : Bin} {promised v : Nat} (h : r.KeepsLaws true promised) (hst : r.state = .serving)
    (hfits : r.confirmed + r.reserved + v ≤ r.capacity) (warn : Bool) :
    Bin.KeepsLaws { r with reserved := r.reserved + v, warn := warn } true (promised + v) := by
  obtain ⟨hreserved, _, _⟩ := h.2 rfl
  refine ⟨?_, fun _ => ⟨?_, fun hidle => ?_, fun t ht => ?_⟩⟩
  · simp only [Bin.sum]; omega
  · simp only; omega
  · rw [hst] at hidle
    simp at hidle
  · rw [hst] at ht
    cases ht

/-! ### The laws of all bins, against the reservations that an event found -/

/-- The laws of the bins, and no more reserved in a bin that is not SERVING than an event found in `s₀`. -/
def State.BinsKept (s₀ t : State) : Prop :=
  t.BinsKeepLaws ∧ ∀ b, (t.bin b).state ≠ .serving → (t.bin b).reserved ≤ (s₀.bin b).reserved

/-- The laws of the bins, with every reservation as an event found it in `s₀`. -/
def State.BinsUntouched (s₀ t : State) : Prop :=
  t.BinsKeepLaws ∧ ∀ b, (t.bin b).reserved = (s₀.bin b).reserved

theorem State.BinsUntouched.kept {s₀ t : State} (h : s₀.BinsUntouched t) : s₀.BinsKept t :=
  ⟨h.1, fun b _ => le_of_eq (h.2 b)⟩

/-- Lanes, links and vouchers are no part of the laws. -/
theorem State.BinsKeepLaws.congr {s t : State} (h : s.BinsKeepLaws) (hbins : t.bins = s.bins) (hup : t.isUp = s.isUp)
    (hpromised : ∀ b, promisedIn b t.transit = promisedIn b s.transit) : t.BinsKeepLaws := by
  refine State.binsKeepLaws_iff.mpr fun b => ?_
  rw [State.bin, hbins, ← State.bin, hup, hpromised]
  exact State.binsKeepLaws_iff.mp h b

section
variable {s₀ s t : State} (hbins : t.bins = s.bins) (hup : t.isUp = s.isUp)
  (hpromised : ∀ b, promisedIn b t.transit = promisedIn b s.transit)
include hbins hup hpromised

theorem State.BinsKept.congr (h : s₀.BinsKept s) : s₀.BinsKept t := by
  refine ⟨h.1.congr hbins hup hpromised, fun b => ?_⟩
  rw [State.bin, hbins, ← State.bin]
  exact h.2 b

theorem State.BinsUntouched.congr (h : s₀.BinsUntouched s) : s₀.BinsUntouched t := by
  refine ⟨h.1.congr hbins hup hpromised, fun b => ?_⟩
  rw [State.bin, hbins, ← State.bin]
  exact h.2 b

end

/-- A change of one bin with the promises to it; no bin that is not SERVING gains a reservation. -/
theorem State.BinsKept.changed {s₀ s t : State} (h : s₀.BinsKept s) {b : BinId} (hup : t.isUp = s.isUp)
    (hbin : ∀ a, a ≠ b → t.bin a = s.bin a) (hpromised : ∀ a, a ≠ b → promisedIn a t.transit = promisedIn a s.transit)
    (hlaws : (t.bin b).KeepsLaws s.isUp (promisedIn b t.transit))
    (hreserved : (t.bin b).state ≠ .serving → (t.bin b).reserved ≤ (s₀.bin b).reserved) : s₀.BinsKept t := by
  refine ⟨State.binsKeepLaws_iff.mpr fun a => ?_, fun a => ?_⟩ <;> by_cases ha : a = b
  · subst ha
    rw [hup]
    exact hlaws
  · rw [hbin a ha, hup, hpromised a ha]
    exact State.binsKeepLaws_iff.mp h.1 a
  · subst ha
    exact hreserved
  · rw [hbin a ha]
    exact h.2 a

/-- The bin of a grant is SERVING and has room for the compacted volume (R69, R102). -/
theorem State.binFor_hasRoom {s : State} {c : Claim} {b : BinId} (h : s.binFor c = some b) :
    s.HasRoom c.material c.volume b := by
  unfold State.binFor at h
  split at h
  · by_cases hroom : ∃ a, s.HasRoom c.material c.volume a
    · obtain ⟨a, hfullest, hchosen⟩ := State.chooseBin_of_hasRoom hroom
      rw [hchosen] at h
      cases h
      exact hfullest.1
    · rw [State.chooseBin_eq_none fun a ha => hroom ⟨a, ha⟩] at h
      cases h
  · cases h

theorem State.BinsKept.decideClaim {s₀ s : State} (h : s₀.BinsKept s) (hup : s.isUp = true) (c : Claim) :
    s₀.BinsKept (s.decideClaim c) := by
  obtain hd | ⟨b, _, hb, hd⟩ | hd := s.decideClaim_cases c <;> rw [hd]
  · exact h
  · obtain ⟨hserving, _, hfits⟩ := State.binFor_hasRoom hb
    have hold := State.binsKeepLaws_iff.mp h.1 b
    have hbin := s.grant_bin c b b
    rw [if_pos rfl] at hbin
    have hpromised : promisedIn b (s.grant c b).transit = promisedIn b s.transit + compactedVolume c.volume (s.bin b).ratio := by
      rw [State.grant_transit, promisedIn_insertByDue, if_pos (show (s.grantedRecord c b).bin = b from rfl)]
      rfl
    refine h.changed (b := b) (by simp) (fun a ha => by rw [State.grant_bin, if_neg ha]) (fun a ha => ?_) ?_ fun hst => ?_
    · rw [State.grant_transit, promisedIn_insertByDue, if_neg (fun hr => ha hr.symm), Nat.add_zero]
    · rw [hup] at hold ⊢
      rw [hbin, hpromised]
      exact hold.reserved hserving hfits _
    · rw [hbin] at hst
      exact absurd hserving hst
  · exact h.congr (by simp) (by simp) (fun _ => by simp)

/-- The head leaves the queue with its promise (R90, R91). -/
theorem State.BinsKept.headLeaves {s₀ s t : State} {r : TransitRecord} {rest : List TransitRecord} {added items : Nat}
    (h : s₀.BinsKept s) (hup : s.isUp = true) (hhead : s.transit = r :: rest) (hup' : t.isUp = s.isUp)
    (htransit : t.transit = rest) (hadded : added ≤ r.volume)
    (hbin : ∀ a, t.bin a = if a = r.bin then
      { s.bin r.bin with reserved := (s.bin r.bin).reserved - r.volume, confirmed := (s.bin r.bin).confirmed + added
                         items := items, state := (s.bin r.bin).drained ((s.bin r.bin).reserved - r.volume) }
      else s.bin a) : s₀.BinsKept t := by
  have hold := State.binsKeepLaws_iff.mp h.1 r.bin
  rw [hhead, promisedIn_cons, if_pos rfl, hup] at hold
  refine h.changed (b := r.bin) hup' (fun a ha => by rw [hbin, if_neg ha]) (fun a ha => ?_) ?_ fun hst => ?_
  · rw [htransit, hhead, promisedIn_cons, if_neg (Ne.symm ha), Nat.add_zero]
  · rw [hbin, if_pos rfl, htransit, hup]
    exact hold.drained hadded
  · rw [hbin, if_pos rfl] at hst ⊢
    have hst' : (s.bin r.bin).state ≠ .serving := fun hserving => hst (by simp [Bin.drained, hserving])
    exact (Nat.sub_le _ _).trans (h.2 r.bin hst')

/-- The session's part of a resolution touches no bin. -/
theorem State.BinsKept.closeIfSettled {s₀ s : State} (h : s₀.BinsKept s) (k : LaneId) : s₀.BinsKept (s.closeIfSettled k) := by
  unfold State.closeIfSettled
  split
  · exact h.congr (by simp) (by simp) fun b => by simp [State.ordinaryClose, promisedIn_detachAll]
  · exact h

theorem binsKept_gate (s₀ : State) : GateLaw s₀.BinsKept where
  alike ha h := h.congr ha.bins ha.isUp fun b => by rw [ha.transit]
  pass {s} hup h := (List.foldlRecOn (motive := fun t => t.isUp = true ∧ s₀.BinsKept t) s.merge.claims State.decideClaim
    ⟨hup, h⟩ fun _ ht c _ => ⟨by simpa using ht.1, ht.2.decideClaim ht.1 c⟩).2
  matchHead {s r rest} hup hhead h := by
    rw [State.matchHead_eq]
    refine State.BinsKept.congr (s := (s.headConfirmed r rest).confirmCredit r) rfl rfl (fun _ => rfl) ?_
    have hconfirmed : s₀.BinsKept (s.headConfirmed r rest) :=
      h.headLeaves hup hhead (by simp) (by simp) le_rfl (s.headConfirmed_bin r rest)
    unfold State.confirmCredit
    split
    · exact State.BinsKept.closeIfSettled (State.BinsKept.congr (by simp) (by simp) (fun _ => by simp) hconfirmed) _
    · exact hconfirmed
  missHead {s r rest} hup hhead h := by
    rw [State.missHead_eq]
    refine State.BinsKept.congr (s := (s.headReleased r rest).loseCredit r) rfl rfl (fun _ => rfl) ?_
    have hreleased : s₀.BinsKept (s.headReleased r rest) :=
      h.headLeaves (added := 0) hup hhead (by simp) (by simp) (Nat.zero_le _) (s.headReleased_bin r rest)
    unfold State.loseCredit
    split
    · exact State.BinsKept.closeIfSettled (State.BinsKept.congr (by simp) (by simp) (fun _ => by simp) hreleased) _
    · exact State.BinsKept.congr (by simp) (by simp) (fun _ => by simp) hreleased

/-! ### The bins at releases, returns, applies and starts -/

/-- A bin that is not SERVING keeps the reservation that the event found. -/
theorem State.BinsUntouched.changed {s₀ s : State} (h : s₀.BinsUntouched s) {b : BinId} {r : Bin}
    (hlaws : r.KeepsLaws s.isUp (promisedIn b s.transit)) (hreserved : r.reserved = (s.bin b).reserved) :
    s₀.BinsUntouched (s.setBin b r) := by
  refine ⟨State.binsKeepLaws_iff.mpr fun a => ?_, fun a => ?_⟩ <;> by_cases ha : a = b
  · subst ha
    rw [State.bin_setBin_self]
    exact hlaws
  · rw [State.bin_setBin_ne _ ha]
    exact State.binsKeepLaws_iff.mp h.1 a
  · subst ha
    rw [State.bin_setBin_self, hreserved]
    exact h.2 a
  · rw [State.bin_setBin_ne _ ha]
    exact h.2 a

/-- A bin that changes its state with its reservations: idle only without any, DRAINING only with some. -/
theorem Bin.KeepsLaws.moved {r q : Bin} {up : Bool} {promised : Nat} (h : r.KeepsLaws up promised) (hsum : q.sum ≤ q.capacity)
    (hreserved : q.reserved = r.reserved)
    (hidle : up = true → q.state = .out ∨ q.state = .released → r.reserved = 0)
    (hdraining : up = true → ∀ t, q.state = .draining t → 0 < r.reserved) : q.KeepsLaws up promised :=
  ⟨hsum, fun hup => by rw [hreserved]; exact ⟨(h.2 hup).1, hidle hup, hdraining hup⟩⟩

/-- The laws of a bin that a BIN-RELEASE takes (R107). -/
theorem Bin.KeepsLaws.releases {r : Bin} {up : Bool} {promised : Nat} {st : BinState} (h : r.KeepsLaws up promised)
    (hst : r.releasedState = some st) : Bin.KeepsLaws { r with state := st } up promised := by
  refine h.moved h.1 rfl (fun hup hidle => ?_) fun hup t ht => ?_
  · unfold Bin.releasedState at hst
    split at hst
    · cases hst
      by_cases hzero : r.reserved = 0
      · exact hzero
      · simp [hzero] at hidle
    next hout => exact (h.2 hup).2.1 (.inl hout)
    · cases hst
    · cases hst
  · unfold Bin.releasedState at hst
    split at hst
    · cases hst
      by_cases hzero : r.reserved = 0
      · simp [hzero] at ht
      · exact Nat.pos_of_ne_zero hzero
    all_goals cases hst
    cases ht

/-- The laws of a bin at an apply, whose new capacity holds its fill (R106, R138, R140). -/
theorem Bin.KeepsLaws.atApply {r : Bin} {up : Bool} {promised : Nat} (h : r.KeepsLaws up promised) (p : BinPart)
    (hcapacity : r.sum ≤ p.capacity) :
    Bin.KeepsLaws { r with state := r.stateAtApply p.service, material := p.material, capacity := p.capacity
                           ratio := p.ratio, warningMark := p.warningMark } up promised := by
  refine h.moved hcapacity rfl (fun hup hidle => ?_) fun hup t ht => ?_
  · obtain ⟨_, hold, _⟩ := h.2 hup
    simp only [Bin.stateAtApply] at hidle
    split at hidle
    · simp at hidle
    · simp at hidle
    · by_cases hzero : r.reserved = 0
      · exact hzero
      · simp [hzero] at hidle
    · exact hold hidle
  · obtain ⟨_, _, hold⟩ := h.2 hup
    simp only [Bin.stateAtApply] at ht
    split at ht
    · cases ht
    · cases ht
    · by_cases hzero : r.reserved = 0
      · simp [hzero] at ht
      · exact Nat.pos_of_ne_zero hzero
    · exact hold t ht

@[simp] theorem State.applyLane_bins (s : State) (k : LaneId) : (s.applyLane k).bins = s.bins := by
  simp only [State.applyLane]
  split <;> rfl

@[simp] theorem State.applyLane_transit (s : State) (k : LaneId) : (s.applyLane k).transit = s.transit := by
  simp only [State.applyLane]
  split <;> rfl

@[simp] theorem State.applyLane_plans (s : State) (k : LaneId) : (s.applyLane k).plans = s.plans := by
  simp only [State.applyLane]
  split <;> rfl

/-- During an apply: untouched reservations, and fills that the new plan's capacities hold (check 6). -/
def State.BinsApplying (s₀ t : State) : Prop :=
  s₀.BinsUntouched t ∧ ∀ b, (t.bin b).sum ≤ (t.binPart b).capacity

theorem State.BinsApplying.applyLane {s₀ t : State} (h : s₀.BinsApplying t) (k : LaneId) : s₀.BinsApplying (t.applyLane k) := by
  refine ⟨h.1.congr (by simp) (by simp) fun b => by simp, fun b => ?_⟩
  rw [State.bin, State.binPart, State.applyLane_bins, State.applyLane_plans]
  exact h.2 b

theorem State.BinsApplying.applyBin {s₀ t : State} (h : s₀.BinsApplying t) (b : BinId) : s₀.BinsApplying (t.applyBin b) := by
  refine ⟨h.1.changed ((State.binsKeepLaws_iff.mp h.1.1 b).atApply (t.binPart b) (h.2 b)) rfl, fun a => ?_⟩
  have hpart : (t.applyBin b).binPart a = t.binPart a := rfl
  rw [hpart]
  simp only [State.applyBin]
  rw [State.bin_setBin]
  split
  next ha => subst ha; exact h.2 a
  next => exact h.2 a

/-- The WARN mark is no part of the laws. -/
theorem State.BinsApplying.warnTest {s₀ t : State} (h : s₀.BinsApplying t) (b : BinId) : s₀.BinsApplying (t.warnTest b) := by
  have hpart : ∀ a, (t.warnTest b).binPart a = t.binPart a := fun a => by simp [State.binPart]
  have hbin : ∀ a, ∃ warn, (t.warnTest b).bin a = { t.bin a with warn := warn } := fun a => by
    rw [State.warnTest_bin]
    split
    next ha => subst ha; exact ⟨_, rfl⟩
    next => exact ⟨_, rfl⟩
  refine ⟨⟨State.binsKeepLaws_iff.mpr fun a => ?_, fun a => ?_⟩, fun a => ?_⟩ <;> obtain ⟨warn, ha⟩ := hbin a
  · rw [ha, State.warnTest_isUp, State.warnTest_transit]
    exact State.binsKeepLaws_iff.mp h.1.1 a
  · rw [ha]
    exact h.1.2 a
  · rw [ha, hpart]
    exact h.2 a

/-- No check fails where every check passes (R138). -/
theorem firstFailing_eq_none_iff (cs : List Bool) : firstFailing cs = none ↔ ∀ c ∈ cs, c = true := by
  induction cs with
  | nil => simp [firstFailing]
  | cons c rest ih => cases c <;> simp [firstFailing, ih]

/-- Check 6 of an apply whose checks all pass (R138). -/
theorem State.capacitiesHold_of_checks {s : State} (h : firstFailing s.planChecks = none) (b : BinId) :
    (s.bin b).sum ≤ s.plans.staged.bins[b].capacity := by
  have hcheck : s.capacitiesHold = true := (firstFailing_eq_none_iff _).mp h _ (by simp [State.planChecks])
  have hall : b ∈ binIds := by decide +revert
  have hbin := List.all_eq_true.mp hcheck b hall
  rw [Bool.and_eq_true, decide_eq_true_iff] at hbin
  exact hbin.1

theorem State.BinsUntouched.applied {s₀ s : State} (h : s₀.BinsUntouched s) (hchecks : firstFailing s.planChecks = none) :
    s₀.BinsUntouched s.appliedParts.reevaluated := by
  have hparts : s₀.BinsApplying s.appliedParts :=
    State.appliedParts_keeps (P := s₀.BinsApplying)
      ⟨h.congr rfl rfl fun _ => rfl, fun b => State.capacitiesHold_of_checks hchecks b⟩ (fun _ k ht => ht.applyLane k)
      (fun _ b ht => ht.applyBin b) fun _ b ht => ht.warnTest b
  exact hparts.1.congr (by simp [State.reevaluated]) (by simp) fun b => by simp [State.reevaluated]

/-- A bin at a warm start has no reservation and no drain (R115). -/
theorem Bin.KeepsLaws.afterStart {r : Bin} {up : Bool} {promised : Nat} (h : r.KeepsLaws up promised) (up' : Bool) :
    r.afterStart.KeepsLaws up' 0 := by
  have hsum := h.1
  unfold Bin.sum at hsum
  refine ⟨?_, fun _ => ⟨rfl, fun _ => rfl, fun t ht => ?_⟩⟩
  · simp only [Bin.sum, Bin.afterStart]
    omega
  · simp only [Bin.afterStart] at ht
    split at ht
    next d _ => cases d <;> cases ht
    next hne => exact absurd ht (hne t)

@[simp] theorem State.recoverLanes_bins (s : State) (n : Nat) : (s.recoverLanes n).bins = s.bins := by
  refine foldl_lanes_keeps (P := fun t => t.bins = s.bins) (s := { s with supply := { s.supply with recovered := 0 } })
    (fun t k ht => ?_) rfl _
  simp only [State.recoverLane]
  split <;> exact ht

theorem State.warmWork_bin (s : State) (b : BinId) : s.warmWork.bin b = (s.bin b).afterStart := by
  have h : (s.loseVolatile.recoverLanes 4).bins = s.bins := State.recoverLanes_bins _ 4
  unfold State.warmWork
  generalize s.loseVolatile.recoverLanes 4 = u at h ⊢
  have hbin : s.bin b = u.bin b := by rw [State.bin, ← h, ← State.bin]
  rw [hbin]
  exact getElem_mapAll _ _ _ _

/-- A part that is down has lost its queue and keeps its bins (R145, R146). -/
theorem State.BinsUntouched.down {s₀ s t : State} (h : s₀.BinsUntouched s) (hbins : t.bins = s.bins) (hdown : t.isUp = false) :
    s₀.BinsUntouched t := by
  refine ⟨State.binsKeepLaws_iff.mpr fun b => ⟨?_, fun hup => Bool.noConfusion (hdown.symm.trans hup)⟩, fun b => ?_⟩ <;>
    rw [State.bin, hbins, ← State.bin]
  · exact (State.binsKeepLaws_iff.mp h.1 b).1
  · exact h.2 b

theorem State.BinsKept.holdUpLane {s₀ s : State} (h : s₀.BinsKept s) (k : LaneId) : s₀.BinsKept (s.holdUpLane k) := by
  unfold State.holdUpLane
  split
  · split <;> exact h.congr (by simp) (by simp) fun b => by simp [State.supplyClose, promisedIn_detachAll]
  · exact h.congr (by simp) (by simp) fun b => by simp [State.supplyClose, promisedIn_detachAll]
  · exact h.congr rfl rfl fun _ => rfl
  · exact h

theorem binsKept_law (s₀ : State) : PartLaw s₀.BinsUntouched s₀.BinsKept where
  weaken := State.BinsUntouched.kept
  alike ha h := h.congr ha.bins ha.isUp fun b => by rw [ha.transit]
  alikeAfter := (binsKept_gate s₀).alike
  respond _ _ _ h := h.congr rfl rfl fun _ => rfl
  pass := (binsKept_gate s₀).pass
  timers _ h := h.kept.congr rfl rfl fun _ => rfl
  pulse order hup h := (binsKept_gate s₀).pulse hup (h.kept.congr rfl rfl fun _ => rfl) order
  edge hup h := (binsKept_gate s₀).takeEdge hup h.kept
  pulseWithEdge order hup h := (binsKept_gate s₀).pulseWithEdge hup (h.kept.congr rfl rfl fun _ => rfl) order
  openSession _ _ _ _ _ _ h := h.kept.congr rfl rfl fun _ => rfl
  join _ _ _ _ _ _ _ _ h := h.kept.congr rfl rfl fun _ => rfl
  refuseClaim _ _ _ _ h := h.kept.congr rfl rfl fun _ => rfl
  endAtOnce k _ _ _ _ _ h := h.kept.congr (by simp) (by simp) fun b => by simp [State.ordinaryClose, promisedIn_detachAll]
  beginSettling _ _ _ _ _ _ h := h.kept.congr rfl rfl fun _ => rfl
  limitClose k _ _ h := h.kept.congr (by simp) (by simp) fun b => by simp [State.limitClose, promisedIn_detachAll]
  rewrite _ _ _ _ _ h := h.kept.congr rfl rfl fun _ => rfl
  remove _ _ _ _ h := h.kept.congr rfl rfl fun _ => rfl
  release b st _ hst h := (h.changed ((State.binsKeepLaws_iff.mp h.1 b).releases hst) rfl).kept
  returnBin {s} b _ hst h := by
    have hold := State.binsKeepLaws_iff.mp h.1 b
    have hsum := hold.1
    unfold Bin.sum at hsum
    refine (h.changed (r := { s.bin b with state := .serving, confirmed := 0, items := 0, warn := false })
      (hold.moved ?_ rfl (fun _ hidle => ?_) fun _ t ht => ?_) rfl).kept
    · simp only [Bin.sum]
      omega
    · simp at hidle
    · cases ht
  apply _ hchecks h := (h.applied hchecks).kept
  holdUpLane k _ h := h.holdUpLane k
  parkModes _ h := h.congr rfl rfl fun _ => rfl
  lose {s} p hp h := (h.down (t := s.loseVolatile.setPhase p) rfl (State.isUp_setPhase_of_ne _ hp)).kept
  cut {s} n h := (h.down (t := (s.loseVolatile.recoverLanes n).setPhase .supplyLost) (State.recoverLanes_bins _ n) rfl).kept
  warm {s} cause lines h := by
    have hbin : ∀ b, (s.warmWork.finishStart cause lines).bin b = (s.bin b).afterStart := s.warmWork_bin
    have htransit : (s.warmWork.finishStart cause lines).transit = [] := s.blanked_warmWork.transit
    refine ⟨State.binsKeepLaws_iff.mpr fun b => ?_, fun b _ => ?_⟩ <;> rw [hbin]
    · rw [htransit]
      exact (State.binsKeepLaws_iff.mp h.1 b).afterStart _
    · exact Nat.zero_le _
  cold {s} lines _ := by
    have hbin : ∀ b, (s.coldWork.finishStart .cold lines).bin b = Bin.cold := fun b => by
      simp [State.coldWork, State.finishStart, State.reset, State.bin]
    refine ⟨State.binsKeepLaws_iff.mpr fun b => ?_, fun b _ => ?_⟩ <;> rw [hbin]
    · refine ⟨by decide, fun _ => ⟨rfl, fun _ => rfl, fun t ht => nomatch ht⟩⟩
    · exact Nat.zero_le _

/-- Settles O57: every part of a step keeps the laws and reserves only in SERVING bins (`binsKept_law`); the one change of a
bin in a decision is that of a grant, whose bin is SERVING (`State.binFor_hasRoom`). -/
theorem stepKeepsBinLaws : Obligations.StepKeepsBinLaws := by
  refine ⟨fun s t hlaws hstep => (binsKept_law s).step hstep ⟨hlaws, fun _ => rfl⟩, fun s c b hst => ?_⟩
  obtain hd | ⟨a, _, ha, hd⟩ | hd := s.decideClaim_cases c <;> rw [hd]
  · obtain ⟨hserving, _⟩ := State.binFor_hasRoom ha
    have hne : b ≠ a := fun hab => hst (hab ▸ hserving)
    rw [State.grant_bin, if_neg hne]
  · simp

end Sys2Proof.Machine
end

section
/-! The voucher slots (R117, R131): each of the 128 slots is on the stack, held by one lane, or with a voucher, and the
outstanding amount is the sum of the vouchers owed. -/

namespace Sys2Proof.Machine

/-! ### The three groups -/

/-- Every slot is on the stack (once), held by one lane, or used, and in one of the three alone (R117). -/
structure SlotGroups (stack : List SlotId) (held : LaneId → Option SlotId) (used : SlotId → Bool) : Prop where
  nodup : stack.Nodup
  stacked : ∀ i, i ∈ stack → used i = false ∧ ∀ k, held k ≠ some i
  holder : ∀ i k, held k = some i → used i = false ∧ ∀ j, held j = some i → j = k
  cover : ∀ i, i ∈ stack ∨ (∃ k, held k = some i) ∨ used i = true

namespace SlotGroups

variable {stack : List SlotId} {held : LaneId → Option SlotId} {used : SlotId → Bool}

/-- The top slot is taken by a lane that held none (R40). -/
theorem take {i : SlotId} (h : SlotGroups (i :: stack) held used) {k : LaneId} (hk : held k = none) :
    SlotGroups stack (Function.update held k (some i)) used := by
  obtain ⟨hi, hnodup⟩ := List.nodup_cons.mp h.nodup
  obtain ⟨hused, hfree⟩ := h.stacked i (by simp)
  refine ⟨hnodup, fun j hj => ?_, fun j l hl => ?_, fun j => ?_⟩
  · obtain ⟨huj, hnot⟩ := h.stacked j (by simp [hj])
    refine ⟨huj, fun l hl => ?_⟩
    by_cases hlk : l = k
    · subst hlk
      rw [Function.update_self] at hl
      cases hl
      exact hi hj
    · rw [Function.update_of_ne hlk] at hl
      exact hnot l hl
  · by_cases hlk : l = k
    · subst hlk
      rw [Function.update_self] at hl
      cases hl
      refine ⟨hused, fun m hm => ?_⟩
      by_contra hml
      rw [Function.update_of_ne hml] at hm
      exact hfree m hm
    · rw [Function.update_of_ne hlk] at hl
      obtain ⟨huj, hunique⟩ := h.holder j l hl
      refine ⟨huj, fun m hm => ?_⟩
      by_cases hmk : m = k
      · subst hmk
        rw [Function.update_self] at hm
        cases hm
        exact absurd hl (hfree l)
      · rw [Function.update_of_ne hmk] at hm
        exact hunique m hm
  · obtain hj | ⟨l, hl⟩ | hj := h.cover j
    · obtain rfl | hj := List.mem_cons.mp hj
      · exact .inr (.inl ⟨k, Function.update_self _ _ _⟩)
      · exact .inl hj
    · refine .inr (.inl ⟨l, ?_⟩)
      rw [Function.update_of_ne (fun hlk => by rw [hlk, hk] at hl; cases hl)]
      exact hl
    · exact .inr (.inr hj)

/-- A lane without a slot gives nothing back. -/
theorem drop_none (h : SlotGroups stack held used) {k : LaneId} (hk : held k = none) :
    SlotGroups stack (Function.update held k none) used := by
  have hsame : Function.update held k none = held := by rw [← hk, Function.update_eq_self]
  rw [hsame]
  exact h

/-- The holders of the slots once lane `k` holds none. -/
theorem update_none_eq_some {k l : LaneId} {j : SlotId} :
    Function.update held k none l = some j ↔ l ≠ k ∧ held l = some j := by
  by_cases hlk : l = k
  · subst hlk; simp
  · simp [hlk]

/-- A lane's slot becomes the slot of a voucher (R120). -/
theorem issue (h : SlotGroups stack held used) {i : SlotId} {k : LaneId} (hk : held k = some i) :
    SlotGroups stack (Function.update held k none) (Function.update used i true) := by
  have hne : ∀ {j}, used j = false → (∀ l, l ≠ k → held l = some j → j ≠ i) := fun _ l hl hj hji =>
    hl ((h.holder i k hk).2 l (hji ▸ hj))
  refine ⟨h.nodup, fun j hj => ?_, fun j l hl => ?_, fun j => ?_⟩
  · obtain ⟨huj, hnot⟩ := h.stacked j hj
    refine ⟨?_, fun l hl => hnot l (update_none_eq_some.mp hl).2⟩
    rw [Function.update_of_ne (fun hji : j = i => hnot k (hji ▸ hk))]
    exact huj
  · obtain ⟨hlk, hl⟩ := update_none_eq_some.mp hl
    obtain ⟨huj, hunique⟩ := h.holder j l hl
    rw [Function.update_of_ne (hne huj l hlk hl)]
    exact ⟨huj, fun m hm => hunique m (update_none_eq_some.mp hm).2⟩
  · by_cases hji : j = i
    · subst hji
      exact .inr (.inr (Function.update_self _ _ _))
    · rw [Function.update_of_ne hji]
      obtain hj | ⟨l, hl⟩ | hj := h.cover j
      · exact .inl hj
      · refine .inr (.inl ⟨l, update_none_eq_some.mpr ⟨fun hlk => hji ?_, hl⟩⟩)
        rw [hlk, hk] at hl
        exact (Option.some.inj hl).symm
      · exact .inr (.inr hj)

/-- A voucher's slot is freed and pushed (R124, R130). -/
theorem free (h : SlotGroups stack held used) {i : SlotId} (hi : used i = true) :
    SlotGroups (i :: stack) held (Function.update used i false) := by
  have hfree : ∀ l, held l ≠ some i := fun l hl => by
    rw [(h.holder i l hl).1] at hi
    cases hi
  refine ⟨List.nodup_cons.mpr ⟨fun hmem => ?_, h.nodup⟩, fun j hj => ?_, fun j l hl => ?_, fun j => ?_⟩
  · rw [(h.stacked i hmem).1] at hi
    cases hi
  · by_cases hji : j = i
    · subst hji
      exact ⟨Function.update_self _ _ _, hfree⟩
    · rw [Function.update_of_ne hji]
      exact h.stacked j ((List.mem_cons.mp hj).resolve_left hji)
  · rw [Function.update_of_ne (fun hji : j = i => hfree l (hji ▸ hl))]
    exact h.holder j l hl
  · by_cases hji : j = i
    · exact .inl (by simp [hji])
    · rw [Function.update_of_ne hji]
      exact (h.cover j).imp_left (List.mem_cons_of_mem i)

/-- A lane's slot is pushed (R49). -/
theorem push (h : SlotGroups stack held used) {i : SlotId} {k : LaneId} (hk : held k = some i) :
    SlotGroups (i :: stack) (Function.update held k none) used := by
  have hunused := (h.holder i k hk).1
  have hpushed := (h.issue hk).free (Function.update_self i true used)
  rw [Function.update_idem, ← hunused, Function.update_eq_self] at hpushed
  exact hpushed

/-- All 128 slots stand in the three groups, each once (R117). -/
theorem length_add (h : SlotGroups stack held used) :
    stack.length + (laneIds.filterMap held).length + ((List.finRange 128).filter used).length = 128 := by
  have hperm : (stack ++ laneIds.filterMap held ++ (List.finRange 128).filter used).Perm (List.finRange 128) := by
    have hlanes : (laneIds.filterMap held).Nodup :=
      List.Nodup.filterMap (fun k l i hk hl => (h.holder i l hl).2 k hk) (by decide)
    have hall : ∀ k : LaneId, k ∈ laneIds := by decide
    refine (List.perm_ext_iff_of_nodup ?_ (List.nodup_finRange 128)).mpr fun i => ?_
    · refine List.nodup_append.mpr ⟨List.nodup_append.mpr ⟨h.nodup, hlanes, fun a ha b hb hab => ?_⟩,
        (List.nodup_finRange 128).filter _, fun a ha b hb hab => ?_⟩
      · obtain ⟨k, _, hk⟩ := List.mem_filterMap.mp hb
        exact (h.stacked a ha).2 k (hab ▸ hk)
      · have hused : used a = true := hab ▸ (List.mem_filter.mp hb).2
        obtain ha | ha := List.mem_append.mp ha
        · rw [(h.stacked a ha).1] at hused
          cases hused
        · obtain ⟨k, _, hk⟩ := List.mem_filterMap.mp ha
          rw [(h.holder a k hk).1] at hused
          cases hused
    · refine iff_of_true ?_ (List.mem_finRange i)
      obtain hi | ⟨k, hk⟩ | hi := h.cover i
      · simp [hi]
      · exact List.mem_append_left _ (List.mem_append_right _ (List.mem_filterMap.mpr ⟨k, hall k, hk⟩))
      · simp [hi]
  have hlen := hperm.length_eq
  rw [List.length_append, List.length_append, List.length_finRange] at hlen
  exact hlen

end SlotGroups

/-! ### The table (R131) -/

theorem VoucherTable.toList_slots (t : VoucherTable) : t.slots.toList = (List.finRange 128).map t.slot := by
  refine List.ext_getElem (by simp) fun n h₁ h₂ => ?_
  simp [VoucherTable.slot]

/-- The amount owed in all slots (R131). -/
def VoucherTable.owed (t : VoucherTable) : Nat := ∑ i, (t.slot i).amount

theorem VoucherTable.owed_eq (t : VoucherTable) : (t.slots.toList.map VoucherSlot.amount).sum = t.owed := by
  rw [t.toList_slots, List.map_map, VoucherTable.owed, Fin.sum_univ_def]
  rfl

/-- A slot that is written changes the sum by its own amounts. -/
theorem VoucherTable.owed_setSlot (t : VoucherTable) (i : SlotId) (x : VoucherSlot) :
    (t.setSlot i x).owed + (t.slot i).amount = t.owed + x.amount := by
  have hupdate : (fun j => ((t.setSlot i x).slot j).amount) = Function.update (fun j => (t.slot j).amount) i x.amount := by
    funext j
    by_cases hj : j = i
    · subst hj; simp
    · simp [hj]
  have hold := Finset.sum_update_of_mem (Finset.mem_univ i) (fun j => (t.slot j).amount) (t.slot i).amount
  rw [Function.update_eq_self] at hold
  rw [VoucherTable.owed, hupdate, Finset.sum_update_of_mem (Finset.mem_univ i), VoucherTable.owed, hold]
  omega

/-- The table after a session that held slot `o`, if any, has ended. -/
def VoucherTable.settleHeld (t : VoucherTable) (o : Option SlotId) (v : Voucher) : VoucherTable :=
  match o with
  | some i => t.settleSlot i v
  | none => t

/-- A close hands the slot of its session back (R49 step 2). -/
theorem State.closeSession_settles (s : State) (k : LaneId) (power : Bool) :
    (s.closeSession k power).table = s.table.settleHeld (s.lane k).slot ((s.lane k).closeVoucher k power) := by
  rw [State.closeSession_table]
  cases (s.lane k).slot <;> rfl

/-- A recovery hands the slot of a retained session back (R148). -/
theorem State.recoverLane_settles (s : State) (k : LaneId) :
    (s.recoverLane k).table = s.table.settleHeld (s.lane k).slot ((s.lane k).recoveredVoucher k) := by
  simp only [State.recoverLane]
  cases (s.lane k).slot <;> rfl

/-- The table against the slots that the lanes hold: the three groups, and the outstanding amount. -/
def VoucherTable.Agrees (t : VoucherTable) (held : LaneId → Option SlotId) : Prop :=
  SlotGroups t.stack held (fun i => (t.slot i).used) ∧ t.outstanding = t.owed

theorem VoucherTable.used_setSlot (t : VoucherTable) (i : SlotId) (x : VoucherSlot) :
    (fun j => ((t.setSlot i x).slot j).used) = Function.update (fun j => (t.slot j).used) i x.used := by
  funext j
  by_cases hj : j = i
  · subst hj; simp
  · simp [hj]

/-- An unused slot owes nothing. -/
theorem VoucherSlot.amount_of_unused {x : VoucherSlot} (h : x.used = false) : x.amount = 0 := by
  cases x <;> first | rfl | cases h

namespace VoucherTable.Agrees

variable {t u : VoucherTable} {held : LaneId → Option SlotId}

/-- Serials and totals are no part of the law. -/
theorem congr (h : t.Agrees held) (hslots : u.slots = t.slots) (hstack : u.stack = t.stack)
    (hout : u.outstanding = t.outstanding) : u.Agrees held := by
  have hslot : u.slot = t.slot := by
    funext i
    rw [VoucherTable.slot, hslots, ← VoucherTable.slot]
  unfold VoucherTable.Agrees VoucherTable.owed
  rw [hslot, hstack, hout]
  exact h

theorem take {i : SlotId} {rest : List SlotId} (h : t.Agrees held) {k : LaneId} (hstack : t.stack = i :: rest)
    (hk : held k = none) : VoucherTable.Agrees { t with stack := rest } (Function.update held k (some i)) := by
  obtain ⟨hgroups, hout⟩ := h
  rw [hstack] at hgroups
  exact ⟨hgroups.take hk, hout⟩

/-- A voucher in the slot of an ended session (R120). -/
theorem issued (h : t.Agrees held) {i : SlotId} {k : LaneId} (hk : held k = some i) {x : VoucherSlot} (hx : x.used = true) :
    VoucherTable.Agrees { t.setSlot i x with outstanding := t.outstanding + x.amount } (Function.update held k none) := by
  obtain ⟨hgroups, hout⟩ := h
  refine ⟨?_, ?_⟩
  · have hissue := hgroups.issue hk
    rw [← hx, ← t.used_setSlot] at hissue
    exact hissue
  · have howed := t.owed_setSlot i x
    rw [VoucherSlot.amount_of_unused (hgroups.holder i k hk).1, ← hout, Nat.add_zero] at howed
    exact howed.symm

/-- The slot of an ended session goes into a voucher or onto the stack (R49, R148). -/
theorem settle (h : t.Agrees held) {i : SlotId} {k : LaneId} (hk : held k = some i) (v : Voucher) :
    (t.settleSlot i v).Agrees (Function.update held k none) := by
  unfold VoucherTable.settleSlot
  split
  · exact (h.issued hk (x := .issued { v with serial := t.serial + 1 }) rfl).congr rfl rfl rfl
  · exact ⟨h.1.push hk, h.2⟩

/-- The slot of lane `k` goes back, if it held one. -/
theorem settleHeld (h : t.Agrees held) (k : LaneId) (v : Voucher) :
    (t.settleHeld (held k) v).Agrees (Function.update held k none) := by
  cases hk : held k with
  | none =>
    rw [← hk, Function.update_eq_self, hk]
    exact h
  | some i => exact h.settle hk v

/-- Ticks and the end of claims leave every voucher in its slot with its amount (R2, R134). -/
theorem mapSlots (h : t.Agrees held) {f : VoucherSlot → VoucherSlot} (hused : ∀ x, (f x).used = x.used)
    (hamount : ∀ x, (f x).amount = x.amount) : VoucherTable.Agrees { t with slots := mapAll f t.slots } held := by
  have hslot : ∀ i, VoucherTable.slot { t with slots := mapAll f t.slots } i = f (t.slot i) := fun i =>
    getElem_mapAll _ _ _ _
  unfold VoucherTable.Agrees VoucherTable.owed
  simp only [hslot, hused, hamount]
  exact h

/-- A voucher of the same amount in a used slot (R123, R125, R126). -/
theorem rewrite (h : t.Agrees held) {i : SlotId} {x : VoucherSlot} (hi : (t.slot i).used = true) (hx : x.used = true)
    (hamount : x.amount = (t.slot i).amount) : (t.setSlot i x).Agrees held := by
  obtain ⟨hgroups, hout⟩ := h
  refine ⟨?_, ?_⟩
  · rw [t.used_setSlot, hx, ← hi, Function.update_eq_self]
    exact hgroups
  · have howed := t.owed_setSlot i x
    change t.outstanding = _
    omega

/-- A voucher leaves the table (R124, R130). -/
theorem remove (h : t.Agrees held) {i : SlotId} {v : Voucher} (hi : (t.slot i).used = true)
    (hamount : v.amount = (t.slot i).amount) : (t.remove i v).Agrees held := by
  obtain ⟨hgroups, hout⟩ := h
  refine ⟨?_, ?_⟩
  · have hfree := hgroups.free hi
    rw [show false = VoucherSlot.used .free from rfl, ← t.used_setSlot] at hfree
    exact hfree
  · have howed := t.owed_setSlot i .free
    change t.outstanding - v.amount = (t.setSlot i .free).owed
    have hfree : VoucherSlot.amount .free = 0 := rfl
    omega

end VoucherTable.Agrees

/-! ### The law of the corner -/

/-- The slots that the lanes hold. -/
def State.held (s : State) (k : LaneId) : Option SlotId := (s.lane k).slot

/-- The law of the slots, with the lanes of a part that is up holding one exactly in a session (R36). -/
def State.SlotsAgree (s : State) : Prop :=
  s.table.Agrees s.held ∧ (s.isUp = true → ∀ k, (s.held k).isSome = (s.lane k).state.inSession)

theorem State.slotsAgree_iff {s : State} : s.SlotsAgree ↔ s.SlotsConserved ∧ s.OutstandingAgrees := by
  unfold State.SlotsAgree VoucherTable.Agrees State.OutstandingAgrees
  rw [s.table.owed_eq]
  constructor
  · rintro ⟨⟨⟨hnodup, hstacked, hholder, hcover⟩, hout⟩, hup⟩
    exact ⟨⟨hnodup, hstacked, hholder, hcover, hup⟩, hout⟩
  · rintro ⟨⟨hnodup, hstacked, hholder, hcover, hup⟩, hout⟩
    exact ⟨⟨⟨hnodup, hstacked, hholder, hcover⟩, hout⟩, hup⟩

theorem State.SlotsAgree.slotGroups {s : State} (h : s.SlotsAgree) : s.slotGroups = 128 := by
  rw [← h.1.1.length_add, State.slotGroups, s.table.toList_slots, List.countP_map, List.countP_eq_length_filter,
    List.countP_eq_length_filter]
  have hlanes : (laneIds.filter fun k => (s.lane k).slot.isSome).length = (laneIds.filterMap s.held).length := by
    rw [List.length_filterMap_eq_countP, List.countP_eq_length_filter]
    rfl
  rw [hlanes]
  rfl

section
variable {s : State} (h : s.SlotsAgree)
include h

/-- Where the lanes keep their slots and their states, the law reads the table's slots, stack and outstanding amount. -/
theorem State.SlotsAgree.congr {t : State} (hup : t.isUp = s.isUp)
    (hlane : ∀ k, (t.lane k).slot = (s.lane k).slot ∧ (t.lane k).state.inSession = (s.lane k).state.inSession)
    (hslots : t.table.slots = s.table.slots) (hstack : t.table.stack = s.table.stack)
    (hout : t.table.outstanding = s.table.outstanding) : t.SlotsAgree := by
  have hheld : t.held = s.held := funext fun k => (hlane k).1
  refine ⟨?_, fun hu k => ?_⟩
  · rw [hheld]
    exact h.1.congr hslots hstack hout
  · rw [hheld, (hlane k).2]
    exact h.2 (hup ▸ hu) k

theorem State.SlotsAgree.alike {t : State} (ha : s.Alike t) : t.SlotsAgree :=
  h.congr ha.isUp (fun k => by rw [ha.lane]; exact ⟨rfl, rfl⟩) ha.slots ha.stack ha.outstanding

theorem State.SlotsAgree.sameLanes {t : State} (hup : t.isUp = s.isUp) (hlanes : t.lanes = s.lanes)
    (htable : t.table = s.table) : t.SlotsAgree :=
  h.congr hup (fun k => by rw [State.lane, hlanes, ← State.lane]; exact ⟨rfl, rfl⟩) (by rw [htable]) (by rw [htable])
    (by rw [htable])

/-- The figures of a lane are no part of the law. -/
theorem State.SlotsAgree.setLane {k : LaneId} {x : Lane} (hslot : x.slot = (s.lane k).slot)
    (hst : x.state.inSession = (s.lane k).state.inSession) : (s.setLane k x).SlotsAgree := by
  refine h.congr rfl (fun j => ?_) rfl rfl rfl
  rw [State.lane_setLane]
  split
  next hj => subst hj; exact ⟨hslot, hst⟩
  next => exact ⟨rfl, rfl⟩

/-- A lane's slot changes with the table. -/
theorem State.SlotsAgree.changed {t : State} {k : LaneId} {o : Option SlotId} (hup : t.isUp = s.isUp)
    (hlane : ∀ j, j ≠ k → t.lane j = s.lane j) (hk : (t.lane k).slot = o)
    (hst : s.isUp = true → o.isSome = (t.lane k).state.inSession) (htable : t.table.Agrees (Function.update s.held k o)) :
    t.SlotsAgree := by
  have hheld : t.held = Function.update s.held k o := by
    funext j
    by_cases hj : j = k
    · subst hj
      rw [Function.update_self]
      exact hk
    · rw [Function.update_of_ne hj, State.held, hlane j hj, ← State.held]
  refine ⟨by rw [hheld]; exact htable, fun hu j => ?_⟩
  rw [hup] at hu
  by_cases hj : j = k
  · subst hj
    rw [hheld, Function.update_self]
    exact hst hu
  · rw [hheld, Function.update_of_ne hj, hlane j hj]
    exact h.2 hu j

theorem State.SlotsAgree.closeSession (k : LaneId) (power : Bool) : (s.closeSession k power).SlotsAgree := by
  refine h.changed (k := k) (o := none) (by simp) (fun j hj => by rw [State.closeSession_lane, if_neg hj]) ?_ (fun _ => ?_) ?_
  · rw [State.closeSession_lane, if_pos rfl]
    rfl
  · rw [State.closeSession_lane, if_pos rfl, Lane.afterClose_state]
    split <;> rfl
  · rw [State.closeSession_settles]
    exact h.1.settleHeld k _

theorem State.SlotsAgree.closeIfSettled (k : LaneId) : (s.closeIfSettled k).SlotsAgree := by
  unfold State.closeIfSettled
  split
  · exact State.SlotsAgree.closeSession
      (h.setLane (x := { s.lane k with unconfirmedCredit := 0, unconfirmedCount := 0 }) rfl rfl) k false
  · exact h

theorem State.SlotsAgree.countUnconfirmed (k : LaneId) : (s.countUnconfirmed k).SlotsAgree :=
  h.setLane (x := { s.lane k with unconfirmedCredit := (s.lane k).transitCredit, unconfirmedCount := (s.lane k).transitCount })
    rfl rfl

theorem State.SlotsAgree.decideClaim (c : Claim) : (s.decideClaim c).SlotsAgree := by
  obtain hd | ⟨b, _, _, hd⟩ | hd := s.decideClaim_cases c <;> rw [hd]
  · exact h
  · refine h.congr (by simp) (fun k => ?_) (by simp) (by simp) (by simp)
    rw [State.grant_lane]
    split
    next hk => subst hk; exact ⟨rfl, rfl⟩
    next => exact ⟨rfl, rfl⟩
  · exact h.sameLanes (by simp) (by simp) (by simp)

theorem State.SlotsAgree.applyLane (k : LaneId) : (s.applyLane k).SlotsAgree := by
  have hset : (s.setLane k ((s.lane k).atApply (s.lanePart k).mode)).SlotsAgree := by
    refine h.setLane ?_ ?_
    · unfold Lane.atApply
      split <;> rfl
    · obtain hst | ⟨hold, hnew⟩ := (s.lane k).atApply_state (s.lanePart k).mode
      · rw [hst]
      · rw [hold, hnew]
  simp only [State.applyLane]
  split
  · exact hset
  · exact hset.alike (State.alike_raise _ _ _)

theorem State.SlotsAgree.applied : s.appliedParts.reevaluated.SlotsAgree := by
  have hparts : s.appliedParts.SlotsAgree :=
    State.appliedParts_keeps (P := State.SlotsAgree) h (fun t k ht => ht.applyLane k) (fun t b ht => ht)
      fun t b ht => ht.sameLanes (by simp) (by simp) (by simp)
  exact hparts.sameLanes (by simp) (by simp [State.reevaluated]) (by simp [State.reevaluated])

theorem State.SlotsAgree.holdUpLane (k : LaneId) : (s.holdUpLane k).SlotsAgree := by
  have hsupply : ∀ {t : State}, t.SlotsAgree → (t.supplyClose k).SlotsAgree := fun ht =>
    (ht.countUnconfirmed k).closeSession k true
  unfold State.holdUpLane
  split
  · split
    · exact hsupply (h.sameLanes rfl rfl rfl)
    · exact hsupply h
  · exact hsupply h
  next hst =>
    exact State.SlotsAgree.alike (h.setLane (x := { s.lane k with state := .parked, parkPending := false }) rfl (by rw [hst]; rfl))
      (State.alike_raise _ _ _)
  · exact h

end

/-- A recovered lane gives its slot back (R148). -/
theorem State.agrees_recoverLane {s : State} (h : s.table.Agrees s.held) (k : LaneId) :
    (s.recoverLane k).table.Agrees (s.recoverLane k).held := by
  have hheld : (s.recoverLane k).held = Function.update s.held k none := by
    funext j
    rw [State.held, State.recoverLane_lane]
    by_cases hj : j = k
    · subst hj
      rw [if_pos rfl, Function.update_self]
      rfl
    · rw [if_neg hj, Function.update_of_ne hj]
      rfl
  rw [hheld, State.recoverLane_settles]
  exact h.settleHeld k _

theorem State.agrees_recoverLanes {s : State} (h : s.table.Agrees s.held) (n : Nat) :
    (s.recoverLanes n).table.Agrees (s.recoverLanes n).held :=
  foldl_lanes_keeps (P := fun t => t.table.Agrees t.held) (s := { s with supply := { s.supply with recovered := 0 } })
    (fun _ k ht => State.agrees_recoverLane ht k) h _

/-- A part that loses its volatile domain keeps its slots, and the stack (R37, R145). -/
theorem State.agrees_loseVolatile {s : State} (h : s.table.Agrees s.held) : s.loseVolatile.table.Agrees s.loseVolatile.held := by
  have hheld : s.loseVolatile.held = s.held := funext fun k => by
    rw [State.held, State.loseVolatile_lane]
    rfl
  rw [hheld]
  exact h

/-- A part that is down has no sessions to hold slots. -/
theorem State.SlotsAgree.ofDown {s : State} (h : s.table.Agrees s.held) (hdown : s.isUp = false) : s.SlotsAgree :=
  ⟨h, fun hup => Bool.noConfusion (hdown.symm.trans hup)⟩

/-- The table of a warm start before the ends of its claims (R148, R134). -/
theorem State.agrees_warmWork {s : State} (h : s.table.Agrees s.held) : s.warmWork.table.Agrees s.warmWork.held := by
  have hrecovered := State.agrees_recoverLanes (State.agrees_loseVolatile h) 4
  unfold State.warmWork
  generalize s.loseVolatile.recoverLanes 4 = u at hrecovered ⊢
  exact hrecovered.mapSlots (fun x => by cases x <;> rfl) fun x => by cases x <;> rfl

theorem slotsAgree_gate : GateLaw State.SlotsAgree where
  alike ha h := h.alike ha
  pass _ h := List.foldlRecOn _ State.decideClaim h fun _ ht c _ => ht.decideClaim c
  matchHead {s r rest} _ _ h := by
    rw [State.matchHead_eq]
    refine State.SlotsAgree.alike ?_ (State.alike_setTotals _ _)
    have hconfirmed : (s.headConfirmed r rest).SlotsAgree := h.sameLanes (by simp) (by simp) (by simp)
    unfold State.confirmCredit
    split
    · refine State.SlotsAgree.closeIfSettled (State.SlotsAgree.setLane hconfirmed ?_ ?_) _ <;> rfl
    · exact hconfirmed
  missHead {s r rest} _ _ h := by
    rw [State.missHead_eq]
    refine State.SlotsAgree.alike ?_ (State.alike_setTotals _ _)
    have hreleased : (s.headReleased r rest).SlotsAgree := h.sameLanes (by simp) (by simp) (by simp)
    unfold State.loseCredit
    split
    · refine State.SlotsAgree.closeIfSettled
        (State.SlotsAgree.alike (State.SlotsAgree.setLane hreleased ?_ ?_) (State.alike_raise _ _ _)) _ <;> rfl
    · exact hreleased.alike (State.alike_setTotals _ _)

/-- A cold table has all slots on its stack and owes nothing (R147). -/
theorem VoucherTable.agrees_cold : VoucherTable.cold.Agrees fun _ => none := by
  have hslot : ∀ i, VoucherTable.cold.slot i = .free := fun i => by simp [VoucherTable.cold, VoucherTable.slot]
  refine ⟨⟨List.nodup_finRange 128, fun i _ => ⟨by rw [hslot]; rfl, fun _ h => (nomatch h)⟩, fun _ _ h => (nomatch h),
    fun i => .inl (List.mem_finRange i)⟩, ?_⟩
  simp only [VoucherTable.owed, hslot]
  exact (Finset.sum_eq_zero fun _ _ => rfl).symm

theorem slotsAgree_law : PartLaw State.SlotsAgree State.SlotsAgree where
  weaken := id
  alike := slotsAgree_gate.alike
  alikeAfter := slotsAgree_gate.alike
  respond _ _ _ h := h
  pass := slotsAgree_gate.pass
  timers {s} _ h := by
    have hlane : s.advanceTimers.held = s.held := funext fun k => by
      rw [State.held, State.advanceTimers_lane]
      rfl
    refine ⟨?_, fun hup k => ?_⟩ <;> rw [hlane]
    · exact h.1.mapSlots (fun x => by cases x <;> rfl) fun x => by cases x <;> rfl
    · rw [State.advanceTimers_lane]
      exact h.2 hup k
  pulse order hup h := slotsAgree_gate.pulse hup h order
  edge := slotsAgree_gate.takeEdge
  pulseWithEdge order hup h := slotsAgree_gate.pulseWithEdge hup h order
  openSession {s} k i rest hup hst hstack h := by
    have hnone : s.held k = none := by
      have hsome := h.2 hup k
      rw [hst] at hsome
      exact Option.isSome_eq_false_iff.mp hsome |> Option.isNone_iff_eq_none.mp
    refine h.changed (k := k) (o := some i) rfl (fun j hj => State.lane_setLane_ne _ hj _) ?_ (fun _ => ?_)
      (h.1.take hstack hnone)
    · rw [State.sessionOpened, State.lane_setLane_self]
    · rw [State.sessionOpened, State.lane_setLane_self]
      rfl
  join _ _ _ _ _ _ _ _ h := h
  refuseClaim _ _ _ _ h := h
  endAtOnce {s} k _ _ _ _ _ h := State.SlotsAgree.closeSession (State.SlotsAgree.setLane (s := s.keepInFlight _ _) h
    (x := { s.lane k with unconfirmedCredit := 0, unconfirmedCount := 0 }) rfl rfl) k false
  beginSettling {s} k _ _ _ hst _ h := State.SlotsAgree.setLane h
    (x := { s.lane k with state := .settling, settle := some { elapsed := 0, limit := s.corner.settleLimit } }) rfl
    (by rw [hst]; rfl)
  limitClose k _ _ h := (h.countUnconfirmed k).closeSession k false
  rewrite i x hi hx hamount h := ⟨h.1.rewrite hi hx hamount, h.2⟩
  remove i v hi hamount h := ⟨h.1.remove hi hamount, h.2⟩
  release _ _ _ _ h := h
  returnBin _ _ _ h := h
  apply _ _ h := h.applied
  holdUpLane k _ h := h.holdUpLane k
  parkModes _ h := h
  lose {s} p hp h := .ofDown (State.agrees_loseVolatile h.1) (State.isUp_setPhase_of_ne _ hp)
  cut {s} n h := .ofDown (State.agrees_recoverLanes (State.agrees_loseVolatile h.1) n) rfl
  warm {s} cause lines h := by
    refine ⟨State.agrees_warmWork h.1, fun _ k => ?_⟩
    have hcold : (s.warmWork.finishStart cause lines).lane k = .cold := s.warmWork_lane k
    rw [State.held, hcold]
    rfl
  cold {s} lines _ := by
    have hcold : ∀ k, (s.coldWork.finishStart .cold lines).lane k = .cold := s.coldWork_lane
    have hheld : (s.coldWork.finishStart .cold lines).held = fun _ => none := funext fun k => congrArg Lane.slot (hcold k)
    refine ⟨?_, fun _ k => ?_⟩
    · rw [hheld]
      exact VoucherTable.agrees_cold
    · rw [State.held, hcold]
      rfl

/-- Settles O55: every part of a step keeps the slots and the outstanding amount (`slotsAgree_law`), and the three groups hold
128 slots (`State.SlotsAgree.slotGroups`). -/
theorem stepKeepsSlotsAndOutstanding : Obligations.StepKeepsSlotsAndOutstanding := by
  intro s t hslots hout hstep
  have h : t.SlotsAgree := slotsAgree_law.step hstep (State.slotsAgree_iff.mpr ⟨hslots, hout⟩)
  obtain ⟨hslots', hout'⟩ := State.slotsAgree_iff.mp h
  exact ⟨hslots', hout', h.slotGroups⟩

end Sys2Proof.Machine
end

section
/-! The belt and its queue (R64, R65, R78, R80, R138): the dues stand in order, at least a gap apart, between the missing point
and the reach of a candidate due; merge-hold lies on the right side of its marks; the active plan is in range. -/

namespace Sys2Proof.Machine

/-! ### Signed distances (R1) -/

theorem signedDistance_neg {a b : Count} (h : -32768 < signedDistance a b) : signedDistance b a = -signedDistance a b := by
  unfold signedDistance at *
  simp only [BitVec.toNat_sub] at *
  split at h <;> split <;> omega

theorem signedDistance_natAbs_comm (a b : Count) : (signedDistance a b).natAbs = (signedDistance b a).natAbs := by
  unfold signedDistance
  simp only [BitVec.toNat_sub]
  split <;> split <;> omega

theorem signedDistance_self (a : Count) : signedDistance a a = 0 := by
  unfold signedDistance
  simp

/-- An advance brings every due one pulse nearer. -/
theorem signedDistance_advance {e d : Count} (h : -32768 < signedDistance e d) :
    signedDistance (e + 1) d = signedDistance e d - 1 := by
  unfold signedDistance at *
  simp only [BitVec.toNat_sub, BitVec.toNat_add] at *
  have hone : (1 : Count).toNat = 1 := rfl
  rw [hone]
  split at h <;> split <;> omega

theorem signedDistance_ofNat (e : Count) {n : Nat} (h : n ≤ 32767) : signedDistance e (e + BitVec.ofNat 16 n) = n := by
  have hsub : e + BitVec.ofNat 16 n - e = BitVec.ofNat 16 n := by simp
  unfold signedDistance
  rw [hsub, BitVec.toNat_ofNat, if_pos (by omega)]
  omega

/-- Dues at the same distance are the same due. -/
theorem signedDistance_injective {e a b : Count} (h : signedDistance e a = signedDistance e b) : a = b := by
  refine BitVec.eq_of_toNat_eq ?_
  unfold signedDistance at h
  simp only [BitVec.toNat_sub] at h
  split at h <;> split at h <;> omega

/-! ### The dues of a queue (R78, R80) -/

/-- Dues in order from count `e`, at least a gap apart, and between `low` and 6,255 pulses ahead. -/
def DuesSpaced (e : Count) (gap : Nat) (low : Int) (q : List Count) : Prop :=
  q.Pairwise (fun a b => signedDistance e a < signedDistance e b ∧ gap ≤ (signedDistance a b).natAbs) ∧
    ∀ d ∈ q, low ≤ signedDistance e d ∧ signedDistance e d ≤ 6255

namespace DuesSpaced

variable {e : Count} {gap : Nat} {low : Int} {q : List Count}

theorem nil : DuesSpaced e gap low [] := ⟨.nil, fun _ h => nomatch h⟩

theorem tail {d : Count} (h : DuesSpaced e gap low (d :: q)) : DuesSpaced e gap low q :=
  ⟨(List.pairwise_cons.mp h.1).2, fun a ha => h.2 a (List.mem_cons_of_mem d ha)⟩

/-- An advance of the count brings every due one pulse nearer. -/
theorem advance (h : DuesSpaced e gap low q) (hlow : -32768 < low) : DuesSpaced (e + 1) gap (low - 1) q := by
  obtain ⟨hpairs, hbounds⟩ := h
  have hstep : ∀ d ∈ q, signedDistance (e + 1) d = signedDistance e d - 1 := fun d hd =>
    signedDistance_advance (lt_of_lt_of_le hlow (hbounds d hd).1)
  refine ⟨hpairs.imp_of_mem fun {a b} ha hb hab => ?_, fun d hd => ?_⟩
  · rw [hstep a ha, hstep b hb]
    exact ⟨by omega, hab.2⟩
  · have := hbounds d hd
    rw [hstep d hd]
    omega

/-- Where the nearest due is not at the missing point, none is. -/
theorem raise (h : DuesSpaced e gap (low - 1) q) (hhead : ∀ d rest, q = d :: rest → signedDistance e d ≠ low - 1) :
    DuesSpaced e gap low q := by
  refine ⟨h.1, fun a ha => ?_⟩
  cases q with
  | nil => cases ha
  | cons d rest =>
    have hd := hhead d rest rfl
    have hbound := h.2 d (by simp)
    have hown := h.2 a ha
    obtain rfl | hrest := List.mem_cons.mp ha
    · omega
    · have := ((List.pairwise_cons.mp h.1).1 a hrest).1
      omega

/-- Once the nearest due has left the queue, none is at the missing point. -/
theorem raise_tail {d : Count} (h : DuesSpaced e gap (low - 1) (d :: q)) : DuesSpaced e gap low q := by
  refine ⟨h.tail.1, fun a ha => ?_⟩
  have hbound := h.2 d (by simp)
  have hown := h.2 a (by simp [ha])
  have := ((List.pairwise_cons.mp h.1).1 a ha).1
  omega

end DuesSpaced

/-- Detaching touches no due (R52). -/
theorem dues_detachAll (k : LaneId) (q : List TransitRecord) :
    (detachAll k q).map TransitRecord.due = q.map TransitRecord.due := by
  rw [detachAll, List.map_map]
  refine List.map_congr_left fun r _ => ?_
  simp only [Function.comp]
  split <;> rfl

/-- A record whose due is clear of the queue is inserted in its order (R68, R78). -/
theorem duesSpaced_insertByDue {e : Count} {gap : Nat} {low : Int} {r : TransitRecord} {q : List TransitRecord}
    (hgap : 0 < gap) (hclear : ∀ x ∈ q, gap ≤ (signedDistance x.due r.due).natAbs)
    (hr : low ≤ signedDistance e r.due ∧ signedDistance e r.due ≤ 6255)
    (h : DuesSpaced e gap low (q.map TransitRecord.due)) :
    DuesSpaced e gap low ((insertByDue e r q).map TransitRecord.due) := by
  induction q with
  | nil => exact ⟨List.pairwise_singleton _ _, fun d hd => by rw [List.mem_singleton.mp hd]; exact hr⟩
  | cons x rest ih =>
    have hrest := ih (fun y hy => hclear y (List.mem_cons_of_mem x hy)) h.tail
    have hmem : ∀ d ∈ (insertByDue e r rest).map TransitRecord.due, d = r.due ∨ d ∈ rest.map TransitRecord.due := fun d hd => by
      have hperm := (insertByDue_perm e r rest).map TransitRecord.due
      simpa using hperm.mem_iff.mp hd
    have hx := hclear x (by simp)
    have hown := h.2 x.due (by simp)
    rw [List.map_cons] at h
    obtain ⟨hfirst, _⟩ := List.pairwise_cons.mp h.1
    unfold insertByDue
    split
    next hnear =>
      refine ⟨List.pairwise_cons.mpr ⟨fun d hd => ?_, hrest.1⟩, fun d hd => ?_⟩
      · obtain rfl | hd := hmem d hd
        · exact ⟨hnear, hx⟩
        · exact hfirst d hd
      · obtain rfl | hd := List.mem_cons.mp hd
        · exact hown
        · exact hrest.2 d hd
    next hfar =>
      have hne : signedDistance e r.due ≠ signedDistance e x.due := fun heq => by
        rw [signedDistance_injective heq, signedDistance_self] at hx
        simp at hx
        omega
      refine ⟨List.pairwise_cons.mpr ⟨fun d hd => ?_, h.1⟩, fun d hd => ?_⟩
      · obtain rfl | hd := List.mem_cons.mp hd
        · exact ⟨by omega, by rw [signedDistance_natAbs_comm]; exact hx⟩
        · obtain ⟨y, hy, rfl⟩ := List.mem_map.mp hd
          have := (hfirst y.due hd).1
          exact ⟨by omega, by rw [signedDistance_natAbs_comm]; exact hclear y (List.mem_cons_of_mem x hy)⟩
      · obtain rfl | hd := List.mem_cons.mp hd
        · exact hr
        · exact h.2 d hd

/-! ### The law of the belt -/

/-- The laws of the plan, the queue and merge-hold, with dues up to `slack` pulses beyond the end of their windows. -/
structure State.BeltLaw (slack : Nat) (s : State) : Prop where
  plan : s.PlanInRange
  spaced : DuesSpaced s.belt.count s.corner.gap (-(s.corner.tolerance : Int) - slack) (s.transit.map TransitRecord.due)
  room : s.transit.length ≤ Config.queueCapacity
  marked : s.MergeHoldMarked

theorem State.beltLaw_iff {s : State} : s.BeltLaw 0 ↔ s.PlanInRange ∧ s.BeltSpaced ∧ s.MergeHoldMarked := by
  have hspaced : DuesSpaced s.belt.count s.corner.gap (-(s.corner.tolerance : Int) - (0 : Nat))
      (s.transit.map TransitRecord.due) ∧ s.transit.length ≤ Config.queueCapacity ↔ s.BeltSpaced := by
    unfold DuesSpaced State.BeltSpaced State.ahead
    rw [List.pairwise_map, List.forall_mem_map]
    simp [and_assoc]
  rw [← hspaced]
  exact ⟨fun ⟨hplan, hqueue, hroom, hmarked⟩ => ⟨hplan, ⟨hqueue, hroom⟩, hmarked⟩,
    fun ⟨hplan, ⟨hqueue, hroom⟩, hmarked⟩ => ⟨hplan, hqueue, hroom, hmarked⟩⟩

/-- The ranges of the active plan that the belt's laws use (Tables 8-1 and 8-2). -/
theorem State.PlanInRange.bounds {s : State} (h : s.PlanInRange) :
    s.corner.tolerance ≤ 255 ∧ 0 < s.corner.gap ∧ ∀ k, 64 ≤ (s.lanePart k).offset ∧ (s.lanePart k).offset ≤ 6000 ∧ (s.lanePart k).dropLead ≤ 255 := by
  obtain ⟨hrange, _, _⟩ := h
  simp only [Plan.inRange, Bool.and_eq_true, List.all_eq_true] at hrange
  obtain ⟨⟨hcorner, hlanes⟩, _⟩ := hrange
  simp only [GlobalPart.inRange, Bool.and_eq_true, decide_eq_true_eq] at hcorner
  refine ⟨?_, ?_, fun k => ?_⟩
  · unfold State.corner; omega
  · unfold State.corner; omega
  · have hk := hlanes (s.lanePart k) (by simp [State.lanePart])
    simp only [LanePart.inRange, Bool.and_eq_true, decide_eq_true_eq] at hk
    omega

/-- A candidate due lies between 64 and 6,255 pulses ahead (R67, R80). -/
theorem State.PlanInRange.candidate {s : State} (h : s.PlanInRange) (k : LaneId) :
    64 ≤ signedDistance s.belt.count (s.candidateDue k s.belt.count) ∧
      signedDistance s.belt.count (s.candidateDue k s.belt.count) ≤ 6255 := by
  obtain ⟨_, _, hlane⟩ := h.bounds
  have hk := hlane k
  rw [State.candidateDue, signedDistance_ofNat _ (by omega)]
  omega

section
variable {slack : Nat} {s : State} (h : s.BeltLaw slack)
include h

/-- Lanes, links, bins and vouchers are no part of the laws. -/
theorem State.BeltLaw.congr {t : State} (hactive : t.plans.active = s.plans.active) (hcount : t.belt.count = s.belt.count)
    (hdues : t.transit.map TransitRecord.due = s.transit.map TransitRecord.due)
    (hhold : t.merge.mergeHold = s.merge.mergeHold) : t.BeltLaw slack := by
  have hcorner : t.corner = s.corner := by rw [State.corner, hactive, ← State.corner]
  have hlen : t.transit.length = s.transit.length := by
    rw [← List.length_map (f := TransitRecord.due), hdues, List.length_map]
  refine ⟨?_, ?_, by rw [hlen]; exact h.room, ?_⟩
  · unfold State.PlanInRange
    rw [hcorner, hactive]
    exact h.plan
  · rw [hcount, hcorner, hdues]
    exact h.spaced
  · unfold State.MergeHoldMarked State.occupancy
    rw [hcorner, hlen, hhold]
    exact h.marked

theorem State.BeltLaw.alike {t : State} (ha : s.Alike t) : t.BeltLaw slack :=
  h.congr ha.active ha.count (by rw [ha.transit]) ha.mergeHold

/-- A grant's record keeps the order and the gaps, and merge-hold its marks (R64, R68, R78). -/
theorem State.BeltLaw.grant {c : Claim} (hmay : s.mayMerge c = true) (b : BinId) : (s.grant c b).BeltLaw slack := by
  obtain ⟨_, hroom, hclear⟩ := State.mayMerge_iff.mp hmay
  obtain ⟨_, hgap, _⟩ := h.plan.bounds
  have hcand := h.plan.candidate c.lane
  have hactive : (s.grant c b).plans = s.plans := by simp
  have hcorner : (s.grant c b).corner = s.corner := by simp
  have hlen : (s.grant c b).transit.length = s.transit.length + 1 := by
    rw [State.grant_transit, (insertByDue_perm _ _ _).length_eq, List.length_cons]
  have hhold : (s.grant c b).merge.mergeHold = (s.merge.mergeHold || decide (s.corner.holdMark ≤ s.transit.length + 1)) := by
    simp [State.grant, State.insertRecord, State.holdAfterInsertion, State.occupancy, (insertByDue_perm _ _ _).length_eq]
  refine ⟨?_, ?_, ?_, ?_⟩
  · unfold State.PlanInRange
    rw [hcorner, hactive]
    exact h.plan
  · rw [hcorner, State.grant_transit]
    have hbelt : (s.grant c b).belt = s.belt := by simp
    rw [hbelt]
    exact duesSpaced_insertByDue hgap hclear ⟨le_trans (by omega) hcand.1, hcand.2⟩ h.spaced
  · rw [hlen]
    exact hroom
  · unfold State.MergeHoldMarked State.occupancy
    rw [hhold, hlen, hcorner]
    have hmarks := h.plan.2.2
    obtain ⟨_, habove⟩ := h.marked
    cases hhold' : s.merge.mergeHold with
    | true =>
      have := habove hhold'
      unfold State.occupancy at this
      simp
      omega
    | false =>
      simp
      omega

theorem State.BeltLaw.decideClaim (c : Claim) : (s.decideClaim c).BeltLaw slack := by
  obtain hd | ⟨b, hmay, _, hd⟩ | hd := s.decideClaim_cases c <;> rw [hd]
  · exact h
  · exact h.grant hmay b
  · exact h.congr (by simp) (by simp) (by simp) rfl

/-- The head leaves the queue: the others keep their order, and merge-hold its marks (R64, R79). -/
theorem State.BeltLaw.removed {slack' : Nat} {r : TransitRecord} {rest : List TransitRecord} (hhead : s.transit = r :: rest)
    (hrest : DuesSpaced s.belt.count s.corner.gap (-(s.corner.tolerance : Int) - slack') (rest.map TransitRecord.due)) :
    (s.removeHead rest).BeltLaw slack' := by
  have hroom := h.room
  rw [hhead, List.length_cons] at hroom
  have hhold : (s.removeHead rest).merge.mergeHold = (s.merge.mergeHold && !decide (rest.length ≤ s.corner.releaseMark)) := by
    simp [State.removeHead, State.holdAfterRemoval, State.occupancy, State.corner]
    rfl
  refine ⟨?_, ?_, ?_, ?_⟩
  · unfold State.PlanInRange
    rw [State.removeHead_corner, State.removeHead_plans]
    exact h.plan
  · rw [State.removeHead_corner, State.removeHead_belt, State.removeHead_transit]
    exact hrest
  · rw [State.removeHead_transit]
    omega
  · unfold State.MergeHoldMarked State.occupancy
    rw [hhold, State.removeHead_corner, State.removeHead_transit]
    have hmarks := h.plan.2.2
    obtain ⟨hbelow, _⟩ := h.marked
    unfold State.occupancy at hbelow
    rw [hhead, List.length_cons] at hbelow
    cases hhold' : s.merge.mergeHold with
    | true =>
      simp
      omega
    | false =>
      have := hbelow hhold'
      simp
      omega

theorem State.BeltLaw.setLane {k : LaneId} {x : Lane} : (s.setLane k x).BeltLaw slack := h.congr rfl rfl rfl rfl

theorem State.BeltLaw.closeIfSettled (k : LaneId) : (s.closeIfSettled k).BeltLaw slack := by
  unfold State.closeIfSettled
  split
  · exact h.congr (by simp) (by simp) (by simp [State.ordinaryClose, dues_detachAll]) (by simp)
  · exact h

end

/-- A match and a missing declaration are the removal of the head, for the belt (R79). -/
theorem State.BeltLaw.matched {slack : Nat} {s : State} {r : TransitRecord} {rest : List TransitRecord}
    (h : (s.removeHead rest).BeltLaw slack) : (s.matchHead r rest).BeltLaw slack := by
  rw [State.matchHead_eq]
  refine State.BeltLaw.alike ?_ (State.alike_setTotals _ _)
  have hconfirmed : (s.headConfirmed r rest).BeltLaw slack := h.congr (by simp) (by simp) (by simp) (by simp)
  unfold State.confirmCredit
  split
  · exact State.BeltLaw.closeIfSettled hconfirmed.setLane _
  · exact hconfirmed

theorem State.BeltLaw.missed {slack : Nat} {s : State} {r : TransitRecord} {rest : List TransitRecord}
    (h : (s.removeHead rest).BeltLaw slack) : (s.missHead r rest).BeltLaw slack := by
  rw [State.missHead_eq]
  refine State.BeltLaw.alike ?_ (State.alike_setTotals _ _)
  have hreleased : (s.headReleased r rest).BeltLaw slack := h.congr (by simp) (by simp) (by simp) (by simp)
  unfold State.loseCredit
  split
  · exact State.BeltLaw.closeIfSettled (State.BeltLaw.alike hreleased.setLane (State.alike_raise _ _ _)) _
  · exact hreleased.alike (State.alike_setTotals _ _)

theorem beltLaw_gate (slack : Nat) : GateLaw (State.BeltLaw slack) where
  alike ha h := h.alike ha
  pass _ h := List.foldlRecOn _ State.decideClaim h fun _ ht c _ => ht.decideClaim c
  matchHead {s r rest} _ hhead h := by
    have hspaced := h.spaced
    rw [hhead] at hspaced
    exact State.BeltLaw.matched (h.removed hhead hspaced.tail)
  missHead {s r rest} _ hhead h := by
    have hspaced := h.spaced
    rw [hhead] at hspaced
    exact State.BeltLaw.missed (h.removed hhead hspaced.tail)

/-! ### An advance -/

/-- An advance brings every due one pulse nearer. -/
theorem State.BeltLaw.advanceCount {s : State} (h : s.BeltLaw 0) : s.advanceCount.BeltLaw 1 := by
  obtain ⟨htolerance, _, _⟩ := h.plan.bounds
  have hone : (-(s.corner.tolerance : Int) - (1 : Nat)) = -(s.corner.tolerance : Int) - (0 : Nat) - 1 := by omega
  have hspaced := h.spaced.advance (by omega)
  rw [← hone] at hspaced
  exact ⟨h.plan, hspaced, h.room, h.marked⟩

/-- The Gate Matcher takes an advance: a head at its missing point leaves the queue, and no other record is there (R80,
R85). -/
theorem State.BeltLaw.gateAdvance {s : State} (hup : s.isUp = true) (h : s.BeltLaw 1) : s.gateAdvance.BeltLaw 0 := by
  obtain ⟨htolerance, _, _⟩ := h.plan.bounds
  have hone : (-(s.corner.tolerance : Int) - (1 : Nat)) = -(s.corner.tolerance : Int) - (0 : Nat) - 1 := by omega
  have hspaced := h.spaced
  rw [hone] at hspaced
  have hstay : (∀ r rest, s.transit = r :: rest → windowPosition s.corner.tolerance r.due s.belt.count ≠ .missingPoint) →
      s.BeltLaw 0 := by
    intro hne
    refine ⟨h.plan, hspaced.raise fun d rest hd => ?_, h.room, h.marked⟩
    obtain ⟨r, q, hq, rfl, rfl⟩ := List.map_eq_cons_iff.mp hd
    have hr := hne r q hq
    have hlow := (hspaced.2 r.due (by rw [hd]; simp)).1
    rw [Ne, windowPosition_missingPoint, signedDistance_neg (by omega)] at hr
    omega
  unfold State.gateAdvance
  split
  next hnil => exact hstay fun r rest hhead => by rw [hnil] at hhead; cases hhead
  next r rest hhead =>
    split
    next hmissing =>
      rw [hhead] at hspaced
      exact (beltLaw_gate 0).pass (by simpa using hup) (State.BeltLaw.missed (h.removed hhead hspaced.raise_tail))
    next hne =>
      refine hstay fun r' rest' hhead' => ?_
      rw [hhead] at hhead'
      cases hhead'
      exact hne

/-- A fold of the takers that includes the Gate Matcher ends with every window open or ahead (R4). -/
theorem State.BeltLaw.takers {f : State → Taker → State} (hf : ∀ s k, s.isUp = true → (f s k).isUp = true)
    (hkeep : ∀ slack s k, s.isUp = true → s.BeltLaw slack → (f s k).BeltLaw slack)
    (hgate : ∀ s, s.isUp = true → s.BeltLaw 1 → (f s .gate).BeltLaw 0) (ts : List Taker) :
    ∀ {s : State}, s.isUp = true → s.BeltLaw 0 ∨ s.BeltLaw 1 ∧ .gate ∈ ts → (ts.foldl f s).BeltLaw 0 := by
  induction ts with
  | nil =>
    intro s _ h
    obtain h | ⟨_, hmem⟩ := h
    · exact h
    · cases hmem
  | cons k rest ih =>
    intro s hup h
    refine ih (hf s k hup) ?_
    obtain h | ⟨h, hmem⟩ := h
    · exact .inl (hkeep 0 s k hup h)
    · obtain rfl | hmem := List.mem_cons.mp hmem
      · exact .inl (hgate s hup h)
      · exact .inr ⟨hkeep 1 s k hup h, hmem⟩

theorem gate_mem_takersOf (order : AdvanceOrder) : Taker.gate ∈ takersOf order := by cases order <;> decide

theorem State.BeltLaw.pulse {s : State} (hup : s.isUp = true) (h : s.BeltLaw 0) (order : AdvanceOrder) :
    (s.pulse order).BeltLaw 0 := by
  refine State.BeltLaw.takers (f := State.takeAdvance) (fun t k ht => ?_) (fun slack t k ht hlaw => ?_)
    (fun t ht hlaw => hlaw.gateAdvance ht) _ (s := s.advanceCount) hup (.inr ⟨h.advanceCount, gate_mem_takersOf order⟩)
  · cases k <;> simpa [State.takeAdvance] using ht
  · cases k with
    | jam => exact hlaw.alike t.alike_jamAdvance
    | gate => exact (beltLaw_gate slack).gateAdvance ht hlaw
    | merge => exact (beltLaw_gate slack).pass ht hlaw

theorem State.BeltLaw.pulseWithEdge {s : State} (hup : s.isUp = true) (h : s.BeltLaw 0) (order : AdvanceOrder) :
    (s.pulseWithEdge order).BeltLaw 0 := by
  refine State.BeltLaw.takers (f := State.takeAdvanceAfterEdge) (fun t k ht => ?_) (fun slack t k ht hlaw => ?_)
    (fun t ht hlaw => ((beltLaw_gate 1).takeEdge ht hlaw).gateAdvance (by simpa using ht)) _ (s := s.advanceCount) hup
    (.inr ⟨h.advanceCount, gate_mem_takersOf order⟩)
  · cases k <;> simpa [State.takeAdvanceAfterEdge] using ht
  · cases k with
    | jam => exact hlaw.alike t.alike_jamAdvance
    | gate => exact (beltLaw_gate slack).gateAdvance (by simpa using ht) ((beltLaw_gate slack).takeEdge ht hlaw)
    | merge => exact (beltLaw_gate slack).pass ht hlaw

/-! ### Applies and starts -/

/-- During an apply: the staged plan is active, and the belt and its queue are as the apply found them. -/
def State.BeltApplying (s t : State) : Prop :=
  t.plans.active = s.plans.staged ∧ t.transit = s.transit ∧ t.belt = s.belt ∧ t.merge = s.merge

theorem State.beltApplying_appliedParts (s : State) : s.BeltApplying s.appliedParts := by
  refine State.appliedParts_keeps (P := s.BeltApplying) ⟨rfl, rfl, rfl, rfl⟩ (fun t k ht => ?_) (fun t b ht => ht)
    fun t b ht => ?_
  · obtain ⟨hactive, htransit, hbelt, hmerge⟩ := ht
    refine ⟨by simpa using hactive, by simpa using htransit, by simpa using hbelt, ?_⟩
    rw [← hmerge]
    simp only [State.applyLane]
    split <;> rfl
  · simpa [State.BeltApplying] using ht

/-- Merge-hold after an apply, from the occupancy and the active marks (R65). -/
theorem State.reevaluated_mergeHold (s : State) :
    s.reevaluated.merge.mergeHold = if s.merge.mergeHold then
      !decide (s.transit.length ≤ s.plans.active.corner.releaseMark)
      else decide (s.plans.active.corner.holdMark ≤ s.transit.length) := by
  simp [State.reevaluated, State.holdAtApply, State.occupancy, State.corner]
  rfl

/-- An apply whose checks pass keeps the queue's spacing, and evaluates merge-hold against the new marks (R65, R138). -/
theorem State.BeltLaw.applied {s : State} (h : s.BeltLaw 0) (hchecks : firstFailing s.planChecks = none) :
    s.appliedParts.reevaluated.BeltLaw 0 := by
  have hcheck := (firstFailing_eq_none_iff _).mp hchecks
  have hrange : s.plans.staged.inRange = true := hcheck _ (by simp [State.planChecks])
  have htolerance : 2 * s.plans.staged.corner.tolerance < s.plans.staged.corner.gap :=
    of_decide_eq_true (hcheck _ (by simp [State.planChecks]))
  have hmarks : s.plans.staged.corner.releaseMark < s.plans.staged.corner.holdMark :=
    of_decide_eq_true (hcheck _ (by simp [State.planChecks]))
  have hspacing : s.spacingKept = true := hcheck _ (by simp [State.planChecks])
  obtain ⟨hactive, htransit, hbelt, hmerge⟩ := s.beltApplying_appliedParts
  have hactive' : s.appliedParts.reevaluated.plans.active = s.plans.staged := by
    rw [← hactive]; simp [State.reevaluated]
  have hcorner : s.appliedParts.reevaluated.corner = s.plans.staged.corner := by rw [State.corner, hactive']
  have htransit' : s.appliedParts.reevaluated.transit = s.transit := by
    rw [← htransit]; simp [State.reevaluated]
  have hcount : s.appliedParts.reevaluated.belt.count = s.belt.count := by
    rw [← hbelt]; simp [State.reevaluated]
  have hhold : s.appliedParts.reevaluated.merge.mergeHold = if s.merge.mergeHold then
      !decide (s.transit.length ≤ s.plans.staged.corner.releaseMark)
      else decide (s.plans.staged.corner.holdMark ≤ s.transit.length) := by
    rw [← hmerge, ← htransit, ← hactive]
    exact State.reevaluated_mergeHold _
  refine ⟨?_, ?_, ?_, ?_⟩
  · unfold State.PlanInRange
    rw [hcorner, hactive']
    exact ⟨hrange, htolerance, hmarks⟩
  · rw [hcount, hcorner, htransit']
    unfold State.spacingKept at hspacing
    simp only [Bool.or_eq_true, Bool.and_eq_true, beq_iff_eq, List.isEmpty_iff] at hspacing
    obtain hempty | ⟨hgap, htol⟩ := hspacing
    · rw [hempty]
      exact DuesSpaced.nil
    · rw [hgap, htol]
      exact h.spaced
  · rw [htransit']
    exact h.room
  · unfold State.MergeHoldMarked State.occupancy
    rw [hhold, hcorner, htransit']
    cases s.merge.mergeHold with
    | true => simp; omega
    | false => simp; omega

/-- An empty belt with merge-hold clear keeps the laws under any plan in range. -/
theorem State.beltLaw_of_empty {s : State} (hplan : s.PlanInRange) (htransit : s.transit = [])
    (hhold : s.merge.mergeHold = false) : s.BeltLaw 0 := by
  refine ⟨hplan, ?_, by rw [htransit]; exact Nat.zero_le _, ?_⟩
  · rw [htransit]
    exact DuesSpaced.nil
  · have hmarks := hplan.2.2
    unfold State.MergeHoldMarked State.occupancy
    rw [hhold, htransit]
    refine ⟨fun _ => ?_, fun hfalse => nomatch hfalse⟩
    simp only [List.length_nil]
    omega

/-- A plan with its lane modes PARKED is in range where the plan is (R143). -/
theorem Plan.inRange_parkModes (p : Plan) : p.parkModes.inRange = p.inRange := by
  have hlanes : p.parkModes.lanes.toList.all LanePart.inRange = p.lanes.toList.all LanePart.inRange := by
    rw [Bool.eq_iff_iff]
    simp [Plan.parkModes, LanePart.inRange]
  unfold Plan.inRange
  rw [hlanes]
  rfl

/-- The laws read nothing that parking the modes changes. -/
theorem State.BeltLaw.parkModes {slack : Nat} {s : State} (h : s.BeltLaw slack) :
    State.BeltLaw slack { s with plans := { s.plans with active := s.plans.active.parkModes } } :=
  ⟨⟨(Plan.inRange_parkModes _).trans h.plan.1, h.plan.2⟩, h.spaced, h.room, h.marked⟩

/-- A plan that is in range stays so where the volatile domain is lost (R145). -/
theorem State.planInRange_of_parked {s t : State} (h : s.PlanInRange) (hplan : t.plans.active = s.plans.active.parkModes) :
    t.PlanInRange := by
  obtain ⟨hrange, hrest⟩ := h
  unfold State.PlanInRange State.corner
  rw [hplan, Plan.inRange_parkModes]
  exact ⟨hrange, hrest⟩

@[simp] theorem State.recoverLanes_plans (s : State) (n : Nat) : (s.recoverLanes n).plans = s.plans := by
  refine foldl_lanes_keeps (P := fun t => t.plans = s.plans) (s := { s with supply := { s.supply with recovered := 0 } })
    (fun t k ht => ?_) rfl _
  simp only [State.recoverLane]
  split <;> exact ht

/-- The plan and the marks of a warm start's work (R149). -/
theorem State.warmWork_belt (s : State) :
    s.warmWork.plans.active = s.plans.active.parkModes ∧ s.warmWork.merge.mergeHold = false := by
  have hplans := s.loseVolatile.recoverLanes_plans 4
  have hmerge := s.loseVolatile.recoverLanes_merge 4
  unfold State.warmWork
  generalize s.loseVolatile.recoverLanes 4 = u at hplans hmerge ⊢
  exact ⟨congrArg PlanUnit.active hplans, congrArg MergeArbiter.mergeHold hmerge⟩

theorem State.BeltLaw.holdUpLane {slack : Nat} {s : State} (h : s.BeltLaw slack) (k : LaneId) :
    (s.holdUpLane k).BeltLaw slack := by
  have hclose : ∀ {t : State}, t.BeltLaw slack → (t.supplyClose k).BeltLaw slack := fun ht =>
    ht.congr (by simp) (by simp) (by simp [State.supplyClose, dues_detachAll]) (by simp)
  unfold State.holdUpLane
  split
  · split
    · exact hclose (h.congr rfl rfl rfl rfl)
    · exact hclose h
  · exact hclose h
  · exact State.BeltLaw.alike h.setLane (State.alike_raise _ _ _)
  · exact h

theorem beltLaw_law : PartLaw (State.BeltLaw 0) (State.BeltLaw 0) where
  weaken := id
  alike := (beltLaw_gate 0).alike
  alikeAfter := (beltLaw_gate 0).alike
  respond _ _ _ h := h.congr rfl rfl rfl rfl
  pass := (beltLaw_gate 0).pass
  timers _ h := h.congr rfl rfl rfl rfl
  pulse order hup h := h.pulse hup order
  edge := (beltLaw_gate 0).takeEdge
  pulseWithEdge order hup h := h.pulseWithEdge hup order
  openSession _ _ _ _ _ _ h := h.congr rfl rfl rfl rfl
  join _ _ _ _ _ _ _ _ h := h.congr rfl rfl rfl rfl
  refuseClaim _ _ _ _ h := h.congr rfl rfl rfl rfl
  endAtOnce k _ _ _ _ _ h := h.congr (by simp) (by simp) (by simp [State.ordinaryClose, dues_detachAll]) (by simp)
  beginSettling _ _ _ _ _ _ h := h.congr rfl rfl rfl rfl
  limitClose k _ _ h := h.congr (by simp) (by simp) (by simp [State.limitClose, dues_detachAll]) (by simp)
  rewrite _ _ _ _ _ h := h.congr rfl rfl rfl rfl
  remove _ _ _ _ h := h.congr rfl rfl rfl rfl
  release _ _ _ _ h := h.congr rfl rfl rfl rfl
  returnBin _ _ _ h := h.congr rfl rfl rfl rfl
  apply _ hchecks h := h.applied hchecks
  holdUpLane k _ h := h.holdUpLane k
  parkModes _ h := h.parkModes
  lose {s} p _ h := State.beltLaw_of_empty (State.planInRange_of_parked (t := s.loseVolatile.setPhase p) h.plan rfl) rfl rfl
  cut {s} n h := by
    refine State.beltLaw_of_empty (State.planInRange_of_parked h.plan ?_) (s.blanked_loseVolatile.recoverLanes n).transit ?_
    · exact congrArg PlanUnit.active (s.loseVolatile.recoverLanes_plans n)
    · exact congrArg MergeArbiter.mergeHold (s.loseVolatile.recoverLanes_merge n)
  warm {s} cause lines h := by
    obtain ⟨hactive, hhold⟩ := s.warmWork_belt
    exact State.beltLaw_of_empty (State.planInRange_of_parked (t := s.warmWork.finishStart cause lines) h.plan hactive)
      s.blanked_warmWork.transit hhold
  cold {s} lines _ := by
    refine State.beltLaw_of_empty ?_ rfl rfl
    have hcorner : (s.coldWork.finishStart .cold lines).corner = GlobalPart.cold := rfl
    have hactive : (s.coldWork.finishStart .cold lines).plans.active = Plan.cold := rfl
    unfold State.PlanInRange
    rw [hcorner, hactive]
    decide

/-- Settles O59: every part of a step keeps the belt's laws (`beltLaw_law`); an advance brings the head to its missing point
at most, and the Gate Matcher takes it from there (`State.BeltLaw.gateAdvance`). -/
theorem stepKeepsBeltSpaced : Obligations.StepKeepsBeltSpaced := by
  intro s t hplan hspaced hmarked hstep
  exact State.beltLaw_iff.mp (beltLaw_law.step hstep (State.beltLaw_iff.mpr ⟨hplan, hspaced, hmarked⟩))

end Sys2Proof.Machine
end

section
/-! The commands of the model that need no long argument: a step's command, the state after reset, inputs while the part is
down, and the eye level. -/

namespace Sys2Proof.Machine

/-- Settles O1: `step` takes the front command and runs it on the rest of the queue. -/
theorem stepRunsFrontCommand : Obligations.StepRunsFrontCommand := fun _ _ _ => rfl

/-! ### The state after reset -/

@[simp] theorem State.reset_lane (k : LaneId) : State.reset.lane k = .cold := by simp [State.reset, State.lane]

theorem State.reset_bin (b : BinId) : State.reset.bin b = .cold := by simp [State.reset, State.bin]

theorem State.reset_port (l : Link) : State.reset.port l = .started (l == .office) := by
  cases l with
  | lane k => fin_cases k <;> rfl
  | checkout => rfl
  | office => rfl

theorem State.reset_slotsAgree : State.reset.SlotsAgree := by
  have hheld : State.reset.held = fun _ => none := funext fun k => by rw [State.held, State.reset_lane]; rfl
  refine ⟨?_, fun _ k => ?_⟩ <;> rw [hheld]
  · exact VoucherTable.agrees_cold
  · rw [State.reset_lane]
    rfl

theorem State.reset_binsKeepLaws : State.reset.BinsKeepLaws := by
  refine State.binsKeepLaws_iff.mpr fun b => ?_
  rw [State.reset_bin]
  exact ⟨by decide, fun _ => ⟨rfl, fun _ => rfl, fun t ht => nomatch ht⟩⟩

theorem State.reset_claimsInFlight : State.reset.ClaimsInFlight :=
  State.claimsInFlight_of_quiet rfl (fun l => by rw [State.reset_port]; rfl) fun k => by rw [State.reset_lane]; decide

theorem State.reset_lanesTidy : State.reset.LanesTidy := fun k => by
  rw [State.reset_lane]
  exact Lane.tidy_cold

theorem State.reset_queuesBounded : State.reset.QueuesBounded := fun l => by
  rw [State.reset_port]
  exact ⟨Nat.zero_le _, fun _ => Nat.zero_le _⟩

theorem State.reset_beltLaw : State.reset.BeltLaw 0 := 
  State.beltLaw_of_empty ⟨by decide, by decide, by decide⟩ rfl rfl

/-- Settles O2: after reset every lane and bin is cold, the queue and the claims are empty, and the stack holds all slots. -/
theorem resetMeetsLaws : Obligations.ResetMeetsLaws := by
  obtain ⟨hslots, hout⟩ := State.slotsAgree_iff.mp State.reset_slotsAgree
  obtain ⟨_, hledger, hlimits⟩ :=
    State.moneyAgrees_of_cold State.reset_claimsInFlight rfl rfl State.reset_lane
  obtain ⟨hpark, hsettle⟩ := State.lanesTidy_iff.mp State.reset_lanesTidy
  obtain ⟨hplan, hspaced, hmarked⟩ := State.beltLaw_iff.mp State.reset_beltLaw
  exact ⟨⟨rfl, rfl, rfl⟩, hslots, hout, State.reset_binsKeepLaws, hledger, State.reset_claimsInFlight, hpark, hsettle,
    State.reset_queuesBounded, hplan, hspaced, hmarked, hlimits, State.reset_slotsAgree.slotGroups⟩

/-! ### Inputs while the part is down (R146) -/

/-- While the part is down no input is taken. -/
theorem State.whenUp_down {s : State} (h : s.isUp = false) (f : State → State) : s.whenUp f = s := by
  simp [State.whenUp, h]

theorem State.frameCompletes_down {s : State} (h : s.isUp = false) (l : Link) (test : State → State) :
    s.frameCompletes l test = s := State.whenUp_down h _

theorem State.whenUp_up {s : State} (h : s.isUp = true) (f : State → State) : s.whenUp f = f s := by
  simp [State.whenUp, h]

/-- Settles O4: every command but RESET, a loss of main supply and a start acts on a part that is up alone. -/
theorem inputsNotTakenWhileDown : Obligations.InputsNotTakenWhileDown := by
  intro c s hdown
  have hinput : ∀ f, Host.Outcome.next (s.whenUp f) = (.next s : Host.Outcome State Fault Refusal) := fun f => by
    rw [State.whenUp_down hdown]
  have hrequest : ∀ l k n take, Host.Outcome.next (s.requestCompletes l k n take) =
      (.next s : Host.Outcome State Fault Refusal) := fun l k n take => by rw [State.requestCompletes_down s l k n take hdown]
  cases c with
  | resetAsserted => exact .inr (.inl rfl)
  | mainSupplyLoss b => exact .inr (.inr (.inl ⟨b, rfl⟩))
  | start o l n => exact .inr (.inr (.inr ⟨o, l, n, rfl⟩))
  | encoderPulse | leadingEdge | trailingEdge | estopAsserted | estopReleased | supwarnAsserted | supwarnWithdrawn
  | backupFlagChange | settleTimerExpiry | claimWaitExpiry | claimLapse | gapTimerExpiry | byteReceived | probe
  | frameTransmitted | statusByteTransmitted => exact .inl (hinput _)
  | frameRefused l kind body check => exact .inl (congrArg Host.Outcome.next (State.frameCompletes_down hdown l _))
  | openSession | container | endSession | cancel | laneQuery | claim | redeem | unclaim | cornerStatus | beltEnable
  | beltStop | jamClear | recogWrite | recogRead | tariffBegin | tariffData | tariffRead | binRelease | binReturn | binRead
  | rejectClear | voucherRead | voucherVoid | totalsRead | periodClose | planStage | planRead | planApply =>
    exact .inl (hrequest _ _ _ _)

/-! ### The eye level (R9, R11) -/

/-- Settles O8: an edge is taken only where it changes the level, and a pulse that comes with such an edge is a pulse. -/
theorem edgesFollowEyeLevel : Obligations.EdgesFollowEyeLevel := by
  intro s hup
  have hedge : ∀ p, exec (.leadingEdge p) s = .next (s.leadingEdge p) := fun p =>
    congrArg Host.Outcome.next (State.whenUp_up hup _)
  have hpulse : ∀ o, exec (.encoderPulse o) s = .next (s.pulse o) := fun o =>
    congrArg Host.Outcome.next (State.whenUp_up hup _)
  have htrailing : exec .trailingEdge s = .next s.trailingEdge := congrArg Host.Outcome.next (State.whenUp_up hup _)
  refine ⟨fun heye => ⟨?_, ?_, fun order => ?_⟩, fun heye => ?_⟩
  · rw [htrailing, State.trailingEdge, if_pos heye]
  · rw [hedge]
    simp [State.leadingEdge, heye]
  · rw [hedge, hpulse]
    simp [State.leadingEdge, heye]
  · rw [htrailing, State.trailingEdge, if_neg (by simp [heye])]

end Sys2Proof.Machine
end

section
/-! Belt Control's lines and the advance of the count with the jam watch (Chapter 1), and the lines of the Supply Monitor
(R152, R153). -/

namespace Sys2Proof.Machine

/-! ### ESTOP (R8) -/

/-- What an evaluation of running leaves of Belt Control's, the arbiter's and the links' state (R7, R63). -/
theorem State.reevaluateRunning_frame (s : State) :
    s.reevaluateRunning = { s with
      ports := s.reevaluateRunning.ports, belt := s.reevaluateRunning.belt, merge := s.reevaluateRunning.merge } := by
  unfold State.reevaluateRunning
  split
  · rfl
  · rw [State.reformHeld_frame]

/-- The supply state is NORMAL or HOLD-UP. -/
theorem State.not_inHoldUp (s : State) : (!s.inHoldUp) = (s.supply.state == .normal) := by
  unfold State.inHoldUp
  cases s.supply.state <;> rfl

theorem State.passIfReleased_eq (t s : State) :
    t.passIfReleased s = if s.merge.held = true ∧ t.merge.held = false then t.mergePass else t := by
  simp [State.passIfReleased]

theorem State.pressEstop_merge (s : State) :
    s.pressEstop.merge = if s.belt.running then { s.merge with held := true } else s.merge := by
  have hheld : State.heldCauses { s with belt := { s.belt with estopPressed := true, running := false } } = true := by
    simp [State.heldCauses]
  simp only [State.pressEstop, State.raise_merge, State.reevaluateRunning_merge]
  cases hrun : s.belt.running <;> simp [State.runConditions, hheld]

/-- Settles O13: both edges of the line evaluate running (`State.reevaluateRunning`), whose effects are its lemmas. -/
theorem estopFollowsLine : Obligations.EstopFollowsLine := by
  intro s hup
  have hpress : exec .estopAsserted s = .next s.pressEstop := congrArg Host.Outcome.next (State.whenUp_up hup _)
  have hrelease : exec .estopReleased s = .next s.releaseEstop := congrArg Host.Outcome.next (State.whenUp_up hup _)
  refine ⟨⟨_, hpress, ?_, s.pressEstop_merge, fun k => ?_, ?_, ?_, ?_⟩,
    ⟨State.reevaluateRunning { s with belt := { s.belt with estopPressed := false } }, ?_, ?_, ?_, fun k => ?_, ?_, ?_, ?_⟩⟩
  · simp [State.pressEstop, State.runConditions]
  · simp only [State.pressEstop, State.raise_port_ne _ _ (by simp : Link.lane k ≠ .office), State.raise_merge]
    exact State.reevaluateRunning_noticed _ k
  · simp [State.pressEstop]
  · rw [State.pressEstop, State.raise_port_self, State.reevaluateRunning_port_office]
    rfl
  · simp only [State.pressEstop]
    conv_lhs => rw [State.reevaluateRunning_frame]
    rfl
  · rw [hrelease, State.releaseEstop, State.passIfReleased_eq]
  · rw [← State.not_inHoldUp, State.reevaluateRunning_belt]
    simp [State.runConditions, State.inHoldUp]
  · exact State.reevaluateRunning_held _
  · exact State.reevaluateRunning_noticed _ k
  · exact State.reevaluateRunning_port_checkout _
  · exact State.reevaluateRunning_port_office _
  · exact State.reevaluateRunning_frame _

/-! ### SUPWARN withdrawn, and the backup comparators (R152, R153) -/

/-- The return to NORMAL, before the pass of a released hold (R152). -/
def State.holdUpEnded (s : State) : State :=
  (((s.setSupplyState .normal).reevaluateRunning).reformHeld).raise .office .supply

theorem State.endHoldUp_eq {s : State} (h : s.supply.state = .holdUp) : s.endHoldUp = s.holdUpEnded.passIfReleased s := by
  simp [State.endHoldUp, State.inHoldUp, h, State.holdUpEnded]

theorem State.reformHeld_of_formed {s : State} (h : s.heldCauses = s.merge.held) : s.reformHeld = s := if_pos h

/-- Held formed after running was evaluated: one of the two evaluations changes it at most. -/
theorem State.reevaluateRunning_reformHeld (s : State) :
    s.reevaluateRunning.reformHeld = State.reformHeld { s with belt := { s.belt with running := s.runConditions } } := by
  unfold State.reevaluateRunning
  split
  next h => rw [h]
  next => exact State.reformHeld_of_formed (by simp)

@[simp] theorem State.holdUpEnded_merge (s : State) :
    s.holdUpEnded.merge = { s.merge with held := s.holdUpEnded.heldCauses } := by
  rw [State.holdUpEnded, State.raise_merge, State.reevaluateRunning_reformHeld, State.reformHeld_merge]
  simp [State.heldCauses, State.inHoldUp, State.setSupplyState]

/-- The lanes are told of the end of HOLD-UP where held changed (R56). -/
theorem State.holdUpEnded_noticed (s : State) (k : LaneId) :
    s.holdUpEnded.port (.lane k) = (s.port (.lane k)).noticed (s.holdUpEnded.merge.held != s.merge.held) := by
  rw [State.holdUpEnded, State.raise_port_ne _ _ (by simp), State.raise_merge, State.reevaluateRunning_reformHeld]
  exact State.reformHeld_noticed _ k

/-- Settles O16. -/
theorem supplyLinesFollowed : Obligations.SupplyLinesFollowed := by
  intro s hup
  have hend : exec .supwarnWithdrawn s = .next s.endHoldUp := congrArg Host.Outcome.next (State.whenUp_up hup _)
  have hback : ∀ low lost, exec (.backupFlagChange low lost) s = .next (s.setBackupFlags low lost) := fun low lost =>
    congrArg Host.Outcome.next (State.whenUp_up hup _)
  refine ⟨fun hn => ?_, fun hh => ⟨s.holdUpEnded, ?_, ?_, ?_, s.holdUpEnded_merge, fun k => ?_, ?_, ?_, ?_⟩,
    fun low lost => ⟨_, hback low lost, ?_, ?_, fun l hl => ?_, ?_⟩⟩
  · rw [hend, State.endHoldUp, if_neg (by simp [State.inHoldUp, hn])]
  · rw [hend, State.endHoldUp_eq hh, State.passIfReleased_eq]
  · simp [State.holdUpEnded, State.setSupplyState]
  · simp [State.holdUpEnded, State.setSupplyState, State.runConditions, State.inHoldUp]
  · exact s.holdUpEnded_noticed k
  · simp [State.holdUpEnded, State.setSupplyState]
  · simp [State.holdUpEnded, State.setSupplyState, Notices.set]
  · rw [State.holdUpEnded, State.reevaluateRunning_reformHeld, State.reformHeld_frame]
    rfl
  · simp only [State.setBackupFlags]
    split <;> simp
  · simp only [State.setBackupFlags]
    by_cases hrise : (low = true ∧ s.supply.backupLow = false) ∨ (lost = true ∧ s.supply.backupLost = false)
    · rw [if_pos (by simpa using hrise), if_pos hrise, State.raise_port_self]
      rfl
    · rw [if_neg (by simpa using hrise), if_neg hrise]
      rfl
  · simp only [State.setBackupFlags]
    split
    · rw [State.raise_port_ne _ _ hl]
      rfl
    · rfl
  · simp only [State.setBackupFlags]
    split <;> rfl

/-! ### The advance and the jam watch (R3, R12) -/

theorem exec_encoderPulse {s : State} (hup : s.isUp = true) (order : AdvanceOrder) :
    exec (.encoderPulse order) s = .next (s.pulse order) := congrArg Host.Outcome.next (State.whenUp_up hup _)

/-- What the takers of an advance leave alone, in every order (R3, R4). -/
theorem State.pulse_frame (s : State) (order : AdvanceOrder) :
    (s.pulse order).belt.count = s.belt.count + 1 ∧ (s.pulse order).belt.enable = s.belt.enable ∧
      (s.pulse order).belt.estopPressed = s.belt.estopPressed ∧ (s.pulse order).belt.eyeBlocked = s.belt.eyeBlocked ∧
      (s.pulse order).chute = s.chute ∧ (s.pulse order).recog = s.recog ∧ (s.pulse order).reject = s.reject ∧
      (s.pulse order).plans = s.plans ∧ (s.pulse order).supply = s.supply ∧ (s.pulse order).choices = s.choices ∧
      (s.pulse order).pending = s.pending := by
  cases order <;> simp [State.pulse, takersOf, State.takeAdvance, State.advanceCount]

theorem State.advanceCount_eq (s : State) : s.advanceCount = s.advanced := rfl

/-- With the watch idle an advance is the Gate Matcher's part and the pass, in the order in which they take it (R4, R73). -/
theorem State.pulse_of_idle {s : State} (hwatch : s.belt.watch = none) (order : AdvanceOrder) :
    s.pulse order = if gateBeforeMerge order then s.advanced.gateAdvance.mergePass else s.advanced.mergePass.gateAdvance := by
  have hidle : ∀ u : State, u.belt = s.advanced.belt → u.jamAdvance = u := fun u hu =>
    State.jamAdvance_idle u (by rw [hu]; exact hwatch)
  cases order <;>
    simp [State.pulse, takersOf, State.takeAdvance, State.advanceCount_eq, gateBeforeMerge, hidle]

end Sys2Proof.Machine
end

section
/-! The Link Ports (Chapter 10): requests by their frames, the tests of a completed frame (R156), the receiver (R155) and the
end of a transmission (R159, R160). -/

namespace Sys2Proof.Machine

/-! ### Numbers by their bytes (R166) -/

theorem foldl_be (w n a : Nat) :
    (be w n).foldl (fun acc b => acc * 256 + b.toNat) a = a * 256 ^ w + n % 256 ^ w := by
  induction w generalizing a with
  | zero => simp [be, Nat.mod_one]
  | succ w ih =>
    rw [be, List.foldl_cons, ih, Nat.mod_pow_succ, BitVec.toNat_ofNat, show 2 ^ 8 = 256 from rfl, pow_succ]
    ring

theorem beNat_be (w n : Nat) : beNat (be w n) = n % 256 ^ w := by
  rw [beNat, foldl_be]
  omega

/-- A word is the number that its bytes spell. -/
theorem ofNat_beNat_msbFirst (w : Nat) {n : Nat} (x : BitVec n) (hn : 2 ^ n = 256 ^ w) :
    BitVec.ofNat n (beNat (msbFirst w x.toNat)) = x := by
  rw [← be_eq_msbFirst, beNat_be, ← hn, Nat.mod_eq_of_lt x.isLt, BitVec.ofNat_toNat, BitVec.setWidth_eq]

theorem keyOf_msbFirst (key : ArticleKey) : keyOf (msbFirst 6 key.toNat) = key := ofNat_beNat_msbFirst 6 key (by norm_num)

/-! ### Requests by their frames (Table 11-1, R169 to R171) -/

/-- A container report is read from its ten bytes (R169). -/
theorem rawReport_body (r : RawReport) :
    rawReport ([r.keyPresent] ++ msbFirst 6 r.key.toNat ++ msbFirst 2 r.weight.toNat ++ [r.shapeOk]) = r :=
  congrArg₂ (fun key weight => RawReport.mk r.keyPresent key weight r.shapeOk) (keyOf_msbFirst r.key)
    (ofNat_beNat_msbFirst 2 r.weight (by norm_num))

/-- The part fields of a PLAN-STAGE are read from the bytes after its selector (R171). -/
theorem rawPart_body (selector : Byte) (fields : RawPart) : rawPart (selector :: rawPartBytes fields) = fields := by
  have hword := fun x : BitVec 16 => ofNat_beNat_msbFirst 2 x (by norm_num)
  cases fields with
  | globalPart gap tolerance hold release claimWait settle jam reject =>
    have hsettle := ofNat_beNat_msbFirst 3 settle (by norm_num)
    have hread : rawPart (selector :: rawPartBytes (.globalPart gap tolerance hold release claimWait settle jam reject)) =
        .globalPart (.ofNat 16 (beNat (msbFirst 2 gap.toNat))) tolerance hold release
          (.ofNat 16 (beNat (msbFirst 2 claimWait.toNat))) (.ofNat 24 (beNat (msbFirst 3 settle.toNat)))
          (.ofNat 16 (beNat (msbFirst 2 jam.toNat))) reject := rfl
    rw [hread, hword, hword, hword, hsettle]
  | lanePart mode offset dropLead materials =>
    have hread : rawPart (selector :: rawPartBytes (.lanePart mode offset dropLead materials)) =
        .lanePart mode (.ofNat 16 (beNat (msbFirst 2 offset.toNat))) dropLead materials := rfl
    rw [hread, hword]
  | binPart service material capacity ratio warningMark =>
    have hread : rawPart (selector :: rawPartBytes (.binPart service material capacity ratio warningMark)) =
        .binPart service material (.ofNat 16 (beNat (msbFirst 2 capacity.toNat))) ratio
          (.ofNat 16 (beNat (msbFirst 2 warningMark.toNat))) := rfl
    rw [hread, hword, hword]

/-- The owner of a RECOG-WRITE reads its fields back from the body (R20). -/
theorem takeBody_recogWrite (l : Link) (index enable : Byte) (key mask : ArticleKey) (cls : Byte) :
    takeBody l .recogWrite ([index, enable] ++ msbFirst 6 key.toNat ++ msbFirst 6 mask.toNat ++ [cls]) =
      takeRecogWrite index enable key mask cls := by
  have hread : takeBody l .recogWrite ([index, enable] ++ msbFirst 6 key.toNat ++ msbFirst 6 mask.toNat ++ [cls]) =
      takeRecogWrite index enable (keyOf (msbFirst 6 key.toNat)) (keyOf (msbFirst 6 mask.toNat)) cls := rfl
  rw [hread, keyOf_msbFirst, keyOf_msbFirst]

theorem takeBody_voucherVoid (l : Link) (slot : Byte) (serial : Serial) :
    takeBody l .voucherVoid (slot :: msbFirst 2 serial.toNat) = takeVoucherVoid slot serial := by
  have hread : takeBody l .voucherVoid (slot :: msbFirst 2 serial.toNat) =
      takeVoucherVoid slot (.ofNat 16 (beNat (msbFirst 2 serial.toNat))) := rfl
  rw [hread, ofNat_beNat_msbFirst 2 serial (by norm_num)]

/-- A request command is the completion of its frame: what its owner takes is read from the body bytes (R156, R157). -/
theorem exec_request {c : Instr} {l : Link} {k : ReqKind} {body : List Byte} (h : requestOf c = some (l, k, body)) (s : State) :
    exec c s = .next (s.requestCompletes l k body.length (takeBody l k body)) := by
  cases c with
  | container j r =>
    obtain ⟨rfl, rfl, rfl⟩ : _ ∧ _ ∧ _ := by simpa [requestOf] using h
    have htake : takeBody (.lane j) .container ([r.keyPresent] ++ msbFirst 6 r.key.toNat ++ msbFirst 2 r.weight.toNat ++ [r.shapeOk]) =
        takeContainer j (rawReport ([r.keyPresent] ++ msbFirst 6 r.key.toNat ++ msbFirst 2 r.weight.toNat ++ [r.shapeOk])) := rfl
    rw [rawReport_body] at htake
    simp only [List.cons_append, List.nil_append, List.append_assoc] at htake ⊢
    rw [htake]
    rfl
  | recogWrite index enable key mask cls =>
    obtain ⟨rfl, rfl, rfl⟩ : _ ∧ _ ∧ _ := by simpa [requestOf] using h
    have htake := takeBody_recogWrite .office index enable key mask cls
    simp only [List.cons_append, List.nil_append, List.append_assoc] at htake ⊢
    rw [htake]
    rfl
  | voucherVoid slot serial =>
    obtain ⟨rfl, rfl, rfl⟩ : _ ∧ _ ∧ _ := by simpa [requestOf] using h
    rw [takeBody_voucherVoid]
    rfl
  | planStage selector fields =>
    obtain ⟨rfl, rfl, rfl⟩ : _ ∧ _ ∧ _ := by simpa [requestOf] using h
    have htake : takeBody .office .planStage (selector :: rawPartBytes fields) =
        takePlanStage selector (rawPart (selector :: rawPartBytes fields)) := rfl
    rw [htake, rawPart_body]
    cases fields <;> rfl
  | _ => cases h <;> rfl

/-- The kind of a request command is one of its link (Table 10-2). -/
theorem mem_kindsOf_of_requestOf {c : Instr} {l : Link} {k : ReqKind} {body : List Byte} (h : requestOf c = some (l, k, body)) :
    k ∈ kindsOf l := by
  cases c <;> cases h <;> simp [kindsOf]

/-- A kind byte names its kind on the kind's link (test 2 of R156). -/
theorem kindOf_code {l : Link} {k : ReqKind} (h : k ∈ kindsOf l) : kindOf l k.code = some k := by
  have hlane : ∀ k ∈ kindsOf (.lane 0), kindOf (.lane 0) k.code = some k := by decide
  have hcheckout : ∀ k ∈ kindsOf .checkout, kindOf .checkout k.code = some k := by decide
  have hoffice : ∀ k ∈ kindsOf .office, kindOf .office k.code = some k := by decide
  cases l with
  | lane j => exact hlane k h
  | checkout => exact hcheckout k h
  | office => exact hoffice k h

/-! ### The tests of a completed frame (R156) -/

theorem State.frameCompletes_tested {s : State} {l : Link} (hup : s.isUp = true) (hqueue : (s.port l).outQueue.length < 3)
    (test : State → State) : s.frameCompletes l test = test (s.setReceiver l .idle) := by
  simp [State.frameCompletes, State.whenUp, hup, Config.discardAt, hqueue]

theorem State.frameCompletes_discarded {s : State} {l : Link} (hup : s.isUp = true) (hqueue : 3 ≤ (s.port l).outQueue.length)
    (test : State → State) : s.frameCompletes l test = s.setReceiver l .idle := by
  simp [State.frameCompletes, State.whenUp, hup, Config.discardAt, hqueue]

/-- A receiver that returns to IDLE, the only trace of a frame on its link. -/
theorem State.setReceiver_frame (s : State) (l : Link) (r : Receiver) :
    (s.setReceiver l r).port l = { s.port l with receiver := r } ∧
      (∀ l', l' ≠ l → (s.setReceiver l r).port l' = s.port l') ∧
      s.setReceiver l r = { s with ports := (s.setReceiver l r).ports } :=
  ⟨s.setReceiver_port_self l r, fun _ h => s.setReceiver_port_ne r h, rfl⟩

theorem State.testRequest_range {s : State} {l : Link} {k : ReqKind} {n : Nat} (hlength : k.lengthOk n = false)
    (take : State → State) : s.testRequest l k n take = s.refuse l k.code .range := by
  simp [State.testRequest, hlength]

theorem State.testRequest_busy {s : State} {l : Link} {k : ReqKind} {n : Nat} (hlength : k.lengthOk n = true)
    (hcancel : k ≠ .cancel) (hquery : k ≠ .laneQuery) (hflight : (s.port l).inFlight.isSome = true) (take : State → State) :
    s.testRequest l k n take = s.refuse l k.code .busy := by
  have hbusy : (s.port l).passesBusy k = false := by simpa [LinkPort.passesBusy, hcancel, hquery] using hflight
  simp [State.testRequest, hlength, hbusy]

theorem State.testFrame_sum {s : State} {l : Link} {len kind : Byte} {body : List Byte} {check : Byte}
    (h : len + kind + body.sum + check ≠ 0) : s.testFrame l len kind body check = s.refuse l kind .frame := if_pos h

/-- A frame with a right sum and a kind of its link goes on to tests 3 and 4. -/
theorem State.testFrame_known {s : State} {l : Link} {len : Byte} {k : ReqKind} {body : List Byte} {check : Byte}
    (hsum : len + k.code + body.sum + check = 0) (hk : k ∈ kindsOf l) :
    s.testFrame l len k.code body check = s.testRequest l k body.length (takeBody l k body) := by
  simp [State.testFrame, hsum, kindOf_code hk]

theorem State.testFrame_unknown {s : State} {l : Link} {len kind : Byte} {body : List Byte} {check : Byte}
    (hsum : len + kind + body.sum + check = 0) (hk : ∀ k ∈ kindsOf l, k.code ≠ kind) :
    s.testFrame l len kind body check = s.refuse l kind .kind := by
  have hnone : kindOf l kind = none := List.find?_eq_none.mpr fun k hmem => by simpa using hk k hmem
  simp [State.testFrame, hsum, hnone]

/-- A refusal formed once the receiver is in IDLE is the frame's only trace. -/
theorem State.refuse_onlyAnswers (s : State) (l : Link) (kind : Byte) (reason : Reason) :
    s.OnlyAnswers ((s.setReceiver l .idle).refuse l kind reason) l (.refuse kind reason 0) :=
  State.onlyAnswers_respond _ rfl

/-- Settles O27: the four tests one after another, on a frame given by its bytes and on a request command. -/
theorem frameTestsRefuse : Obligations.FrameTestsRefuse := by
  intro s l hup hqueue
  have hflight : ((s.setReceiver l .idle).port l).inFlight = (s.port l).inFlight := by simp
  constructor
  · intro kind body check reason _ hcase
    have hexec : exec (.frameRefused l kind body check) s =
        .next ((s.setReceiver l .idle).testFrame l (.ofNat 8 (body.length + 1)) kind body check) :=
      congrArg Host.Outcome.next (State.frameCompletes_tested hup hqueue _)
    have hrefused : (s.setReceiver l .idle).testFrame l (.ofNat 8 (body.length + 1)) kind body check =
        (s.setReceiver l .idle).refuse l kind reason := by
      rcases hcase with ⟨hsum, rfl⟩ | ⟨hsum, hkind, rfl⟩ | ⟨hsum, k, hk, rfl, hlength, rfl⟩ |
        ⟨hsum, k, hk, rfl, hlength, hcancel, hquery, hbusy, rfl⟩
      · exact State.testFrame_sum hsum
      · exact State.testFrame_unknown hsum hkind
      · rw [State.testFrame_known hsum hk, State.testRequest_range hlength]
      · rw [State.testFrame_known hsum hk, State.testRequest_busy hlength hcancel hquery (hflight ▸ hbusy)]
    rw [hrefused] at hexec
    exact ⟨_, hexec, s.refuse_onlyAnswers l kind reason, rfl⟩
  · intro c k body hrequest
    have hexec : exec c s = .next ((s.setReceiver l .idle).testRequest l k body.length (takeBody l k body)) :=
      (exec_request hrequest s).trans (congrArg Host.Outcome.next (State.frameCompletes_tested hup hqueue _))
    refine ⟨fun hlength => ?_, fun hlength hcancel hquery hbusy => ?_⟩
    · rw [State.testRequest_range hlength] at hexec
      exact State.linkRefuses_of_exec hexec
    · rw [State.testRequest_busy hlength hcancel hquery (hflight ▸ hbusy)] at hexec
      exact State.linkRefuses_of_exec hexec

/-- Settles O29. -/
theorem fullQueueDiscards : Obligations.FullQueueDiscards := by
  intro c l k body s hrequest hup hqueue
  obtain ⟨hport, hother, hrest⟩ := s.setReceiver_frame l .idle
  exact ⟨s.setReceiver l .idle,
    (exec_request hrequest s).trans (congrArg Host.Outcome.next (State.frameCompletes_discarded hup hqueue _)),
    hport, hother, hrest, fun _ _ _ => congrArg Host.Outcome.next (State.frameCompletes_discarded hup hqueue _)⟩

/-- Settles O30. -/
theorem holdUpRefusesPower : Obligations.HoldUpRefusesPower := by
  intro c l k body s hrequest hk hlength hup hhold hqueue hbusy
  have hinHoldUp : s.inHoldUp = true := by simp [State.inHoldUp, hhold]
  have hexec : exec c s = .next ((s.handed l k).respond l (refusal k .power)) :=
    (exec_request hrequest s).trans (congrArg Host.Outcome.next
      (State.requestCompletes_power s l k _ _ hup hqueue hlength hbusy hinHoldUp hk))
  have hports : (s.handed l k).ports = (s.setReceiver l .idle).ports := by
    unfold State.handed
    split <;> rfl
  have hcloses : (closesCursor l k = true) ↔ l = .office ∧ k ≠ .tariffData := by simp [closesCursor]
  refine ⟨_, hexec, State.onlyAnswers_respond _ hports, ?_, ?_⟩
  · rw [State.respond_recog, State.handed]
    split
    next h => rw [if_pos (hcloses.mp h)]; rfl
    next h => rw [if_neg fun hand => h (hcloses.mpr hand)]; rfl
  · unfold State.handed
    split <;> rfl

/-! ### The receiver (R155) -/

theorem exec_byteReceived {s : State} (hup : s.isUp = true) (l : Link) (b : Byte) (stopBit : Bool) :
    exec (.byteReceived l b stopBit) s = .next (s.receive l b stopBit) := congrArg Host.Outcome.next (State.whenUp_up hup _)

theorem exec_gapTimerExpiry {s : State} (hup : s.isUp = true) (l : Link) :
    exec (.gapTimerExpiry l) s = .next (if (s.port l).receiver.gapDue then s.setReceiver l .idle else s) :=
  congrArg Host.Outcome.next (State.whenUp_up hup _)

/-- The byte after SYNC is LEN where it lies in 1 to 120, and sends the receiver to HUNT otherwise. -/
theorem State.frameByte_len (s : State) (l : Link) (b : Byte) :
    s.frameByte l [] b = s.setReceiver l (if 1 ≤ b.toNat ∧ b.toNat ≤ 120 then .frame [b] 0 else .hunt 0) := by
  simp only [State.frameByte]
  split <;> rfl

/-- A byte of a frame that LEN says is not complete joins its bytes. -/
theorem State.frameByte_short {s : State} {l : Link} {len : Byte} {bytes : List Byte} (h : bytes.length < len.toNat) (b : Byte) :
    s.frameByte l (len :: bytes) b = s.setReceiver l (.frame (len :: bytes ++ [b]) 0) := by
  cases bytes with
  | nil => rfl
  | cons kind body => exact if_neg (by simp at h; omega)

/-- The byte after the last of the body is CHECK: the frame is complete. -/
theorem State.frameByte_check {s : State} {l : Link} {len kind : Byte} {body : List Byte} (h : body.length + 1 = len.toNat)
    (b : Byte) : s.frameByte l (len :: kind :: body) b = s.bytesComplete l len kind body b := if_pos h

/-- Settles O25: the receiver's table, row by row. -/
theorem receiverTakesByte : Obligations.ReceiverTakesByte := by
  intro s l b hup
  have hexec := exec_byteReceived hup l b
  have hgap := exec_gapTimerExpiry hup l
  have hset : ∀ {c : Instr} {r : Receiver}, exec c s = .next (s.setReceiver l r) → ∃ t : State, exec c s = .next t ∧
      t.port l = { s.port l with receiver := r } ∧ (∀ l', l' ≠ l → t.port l' = s.port l') ∧ t = { s with ports := t.ports } :=
    fun h => ⟨_, h, s.setReceiver_frame l _⟩
  refine ⟨fun receiver hrow => ?_, fun hidle hsync hprobe => ?_, fun bytes g hframe => ?_, fun hrest => ?_, fun hnot => ?_,
    fun hlimit => ?_, ?_⟩
  · refine hset ((hexec true).trans (congrArg Host.Outcome.next ?_))
    rcases hrow with ⟨hidle, rfl, rfl⟩ | ⟨g, hframe, hlow, hhigh, rfl⟩ | ⟨g, hframe, hout, rfl⟩ |
      ⟨len, bytes, g, hframe, hshort, rfl⟩ | ⟨g, hhunt, rfl, rfl⟩ | ⟨g, hhunt, hsync, rfl⟩
    · simp [State.receive, hidle]
    · simp [State.receive, hframe, State.frameByte_len, hlow, hhigh]
    · simp only [State.receive, hframe, State.frameByte_len]
      rw [if_neg (by omega)]
    · simp only [State.receive, hframe, State.frameByte_short hshort]
    · simp [State.receive, hhunt]
    · simp only [State.receive, hhunt]
      exact if_neg hsync
  · rw [hexec]
    simp only [State.receive, hidle]
    rw [if_neg hsync, if_neg hprobe]
  · refine hset ((hexec false).trans (congrArg Host.Outcome.next ?_))
    simp [State.receive, hframe]
  · rw [hexec]
    rcases hrest with hidle | ⟨g, hhunt⟩
    · simp [State.receive, hidle]
    · simp [State.receive, hhunt]
  · rw [hgap, if_neg fun hdue => hnot ((s.atLimit_gap l).mpr hdue)]
  · rw [if_pos ((s.atLimit_gap l).mp hlimit)] at hgap
    exact hset hgap
  · rfl

/-! ### A request byte by byte (R154, R155) -/

theorem runAll_byte {s : State} (hup : s.isUp = true) (l : Link) (b : Byte) (cs : List Instr) :
    runAll (.byteReceived l b true :: cs) s = runAll cs (s.receive l b true) := by
  rw [runAll, exec_byteReceived hup]

/-- While the part is down bytes pass by (R146). -/
theorem runAll_bytes_down {s : State} (hdown : s.isUp = false) (l : Link) (bytes : List Byte) :
    runAll (bytes.map fun b => .byteReceived l b true) s = some s := by
  induction bytes with
  | nil => rfl
  | cons b bytes ih =>
    have hexec : exec (.byteReceived l b true) s = .next s := congrArg Host.Outcome.next (State.whenUp_down hdown _)
    rw [List.map_cons, runAll, hexec]
    exact ih

@[simp] theorem State.setReceiver_setReceiver (s : State) (l : Link) (r r' : Receiver) :
    (s.setReceiver l r).setReceiver l r' = s.setReceiver l r' := by
  refine State.ext_fields (State.ports_ext fun m => ?_) rfl rfl rfl rfl rfl rfl rfl rfl rfl rfl rfl rfl rfl
  by_cases hm : m = l
  · subst hm
    simp
  · simp [hm]

/-- A frame's completion does not read the receiver that it ends. -/
theorem State.frameCompletes_setReceiver {s : State} {l : Link} (hup : s.isUp = true) (r : Receiver) (test : State → State) :
    (s.setReceiver l r).frameCompletes l test = s.frameCompletes l test := by
  have hup' : (s.setReceiver l r).isUp = true := hup
  have hqueue : ((s.setReceiver l r).port l).outQueue = (s.port l).outQueue := by simp
  rcases Nat.lt_or_ge (s.port l).outQueue.length 3 with hlt | hge
  · rw [State.frameCompletes_tested hup' (hqueue ▸ hlt), State.frameCompletes_tested hup hlt, State.setReceiver_setReceiver]
  · rw [State.frameCompletes_discarded hup' (hqueue ▸ hge), State.frameCompletes_discarded hup hge,
      State.setReceiver_setReceiver]

/-- The receiver within a frame takes the byte as one of the frame. -/
theorem State.receive_within (s : State) (l : Link) (bytes : List Byte) (b : Byte) :
    (s.setReceiver l (.frame bytes 0)).receive l b true = (s.setReceiver l (.frame bytes 0)).frameByte l bytes b := by
  simp [State.receive]

/-- From KIND on: the rest of the body and CHECK complete the frame. -/
theorem runAll_body {s : State} (hup : s.isUp = true) (l : Link) (len kind check : Byte) (rest done : List Byte)
    (hlen : done.length + rest.length + 1 = len.toNat) :
    runAll ((rest ++ [check]).map fun b => .byteReceived l b true) (s.setReceiver l (.frame (len :: kind :: done) 0)) =
      some (s.bytesComplete l len kind (done ++ rest) check) := by
  have hup' : ∀ r, (s.setReceiver l r).isUp = true := fun _ => hup
  induction rest generalizing done with
  | nil =>
    rw [List.append_nil, List.nil_append, List.map_singleton, runAll_byte (hup' _), State.receive_within,
      State.frameByte_check (by simpa using hlen), runAll]
    exact congrArg some (State.frameCompletes_setReceiver hup _ _)
  | cons b rest ih =>
    rw [List.cons_append, List.map_cons, runAll_byte (hup' _), State.receive_within,
      State.frameByte_short (by simp at hlen ⊢; omega), State.setReceiver_setReceiver]
    have hdone := ih (done ++ [b]) (by simp at hlen ⊢; omega)
    rw [List.append_assoc, List.singleton_append] at hdone
    exact hdone

/-- The bytes of a frame, sent to a receiver in IDLE, complete it. -/
theorem runAll_frame {s : State} (hup : s.isUp = true) {l : Link} (hidle : (s.port l).receiver = .idle) (kind : Byte)
    {body : List Byte} (hbody : body.length ≤ 119) :
    runAll ((frameOf kind body).map fun b => .byteReceived l b true) s =
      some (s.bytesComplete l (.ofNat 8 (body.length + 1)) kind body
        (checkByte (.ofNat 8 (body.length + 1)) kind body)) := by
  have hlen : (BitVec.ofNat 8 (body.length + 1)).toNat = body.length + 1 := by
    rw [BitVec.toNat_ofNat]
    omega
  have hsync : s.receive l 0xA5 true = s.setReceiver l (.frame [] 0) := by simp [State.receive, hidle]
  have hframe : frameOf kind body = 0xA5 :: BitVec.ofNat 8 (body.length + 1) :: kind ::
      (body ++ [checkByte (.ofNat 8 (body.length + 1)) kind body]) := rfl
  have hup' : ∀ r, (s.setReceiver l r).isUp = true := fun _ => hup
  rw [hframe, List.map_cons, runAll_byte hup, hsync, List.map_cons, runAll_byte (hup' _), State.receive_within,
    State.frameByte_len, hlen, if_pos (by omega), State.setReceiver_setReceiver, List.map_cons, runAll_byte (hup' _),
    State.receive_within, State.frameByte_short (by rw [hlen]; simp), State.setReceiver_setReceiver]
  exact runAll_body hup l _ kind _ body [] (by rw [hlen]; simp)

/-- CHECK makes the sum of a frame 0 (R167). -/
theorem checkByte_sum (len kind : Byte) (body : List Byte) : len + kind + body.sum + checkByte len kind body = 0 := by
  unfold checkByte
  ring

/-- The body of a request that a master can send fits a frame (R154). -/
theorem length_of_requestOf {c : Instr} {l : Link} {k : ReqKind} {body : List Byte} (h : requestOf c = some (l, k, body))
    (hwell : c.wellFormed = true) : body.length ≤ 119 := by
  cases c with
  | planStage selector fields =>
    cases h
    cases fields <;> simp [rawPartBytes, msbFirst]
  | claim _ code | redeem _ code | unclaim _ code =>
    cases h
    exact Nat.succ_le_succ (of_decide_eq_true hwell)
  | _ => cases h <;> simp_all [Instr.wellFormed, msbFirst]

/-- Settles O31: the bytes of a frame complete it (`runAll_frame`), and the frame is handed on as its command is
(`exec_request`). -/
theorem byteFrameIsRequest : Obligations.ByteFrameIsRequest := by
  intro c l k body s hrequest hwell hidle
  refine ⟨_, exec_request hrequest s, ?_⟩
  cases hup : s.isUp with
  | false => rw [State.requestCompletes_down _ _ _ _ _ hup, runAll_bytes_down hup]
  | true =>
    rw [runAll_frame hup hidle k.code (length_of_requestOf hrequest hwell)]
    have htest : (fun u : State => u.testFrame l (.ofNat 8 (body.length + 1)) k.code body
        (checkByte (.ofNat 8 (body.length + 1)) k.code body)) = fun u => u.testRequest l k body.length (takeBody l k body) :=
      funext fun u => State.testFrame_known (checkByte_sum _ _ _) (mem_kindsOf_of_requestOf hrequest)
    rw [State.bytesComplete, htest]
    rfl

/-! ### The end of a transmission (R159, R160) -/

theorem LinkPort.beginNext_pendingStatus (p : LinkPort) : p.beginNext.pendingStatus = none := by
  unfold LinkPort.beginNext
  split
  · rfl
  next h => exact h

/-- What a transmitter that has sent does next: the pending status byte first, then the next frame (R160). -/
theorem LinkPort.beginNext_transmitter (p : LinkPort) :
    p.beginNext.transmitter =
      match p.pendingStatus with
      | some b => .status b
      | none => if p.outQueue = [] then .idle else .frame := by
  cases h : p.pendingStatus <;> simp [LinkPort.beginNext, h]

theorem LinkPort.beginNext_frame (p : LinkPort) :
    p.beginNext = { p with pendingStatus := p.beginNext.pendingStatus, transmitter := p.beginNext.transmitter } := by
  unfold LinkPort.beginNext
  split <;> rfl

theorem exec_frameTransmitted {s : State} (hup : s.isUp = true) (l : Link) :
    exec (.frameTransmitted l) s = .next (s.setPort l (s.port l).frameSent) := congrArg Host.Outcome.next (State.whenUp_up hup _)

theorem exec_statusByteTransmitted {s : State} (hup : s.isUp = true) (l : Link) :
    exec (.statusByteTransmitted l) s = .next (s.setPort l (s.port l).statusSent) :=
  congrArg Host.Outcome.next (State.whenUp_up hup _)

theorem State.setPort_port (s : State) (l : Link) : s.setPort l (s.port l) = s :=
  State.ext_fields (State.ports_ext fun m => by by_cases hm : m = l <;> simp [hm]) rfl rfl rfl rfl rfl rfl rfl rfl rfl rfl rfl
    rfl rfl

/-- Settles O28. -/
theorem transmissionEnds : Obligations.TransmissionEnds := by
  intro s l hup
  have hother : ∀ (p : LinkPort) (l' : Link), l' ≠ l → (s.setPort l p).port l' = s.port l' := fun p _ h => s.port_setPort_ne h p
  refine ⟨fun hframe => ?_, fun b hstatus => ?_, fun hnot => ?_, fun hnot => ?_⟩
  · have hsent : (s.port l).frameSent = { s.port l with outQueue := (s.port l).outQueue.tail }.beginNext := if_pos hframe
    refine ⟨_, exec_frameTransmitted hup l, ?_, ?_, ?_, ?_, hother _, rfl⟩ <;> rw [State.port_setPort_self, hsent]
    · rw [LinkPort.beginNext_frame]
    · exact LinkPort.beginNext_pendingStatus _
    · rw [LinkPort.beginNext_transmitter]
      have hlast : (s.port l).outQueue.tail = [] ↔ (s.port l).outQueue.length ≤ 1 := by
        rw [← List.length_eq_zero_iff, List.length_tail]
        omega
      cases (s.port l).pendingStatus <;> simp [hlast]
    · rw [LinkPort.beginNext_frame]
  · have hsent : (s.port l).statusSent = (s.port l).beginNext := by simp [LinkPort.statusSent, hstatus]
    refine ⟨_, exec_statusByteTransmitted hup l, ?_, ?_, ?_, hother _, rfl⟩ <;> rw [State.port_setPort_self, hsent]
    · exact LinkPort.beginNext_pendingStatus _
    · exact LinkPort.beginNext_transmitter _
    · exact LinkPort.beginNext_frame _
  · have hsent : (s.port l).frameSent = s.port l := if_neg hnot
    rw [exec_frameTransmitted hup, hsent, State.setPort_port]
  · have hsent : (s.port l).statusSent = s.port l := by
      unfold LinkPort.statusSent
      split
      next b h => exact absurd h (hnot b)
      next => rfl
    rw [exec_statusByteTransmitted hup, hsent, State.setPort_port]

end Sys2Proof.Machine
end

section
/-! The timebase and the expiries (R2, R43, R61, R126), and the Supply Monitor's RESET, loss of supply and cold start (R145 to
R147). -/

namespace Sys2Proof.Machine

/-! ### The timebase step (R2) -/

/-- No expiry is queued twice: the timers of one kind are counted once each, and commands of two kinds differ. -/
theorem State.nodup_dueExpiries (s : State) : s.dueExpiries.Nodup := by
  have hlanes : laneIds.Nodup := by decide
  have hlinks : links.Nodup := by decide
  unfold State.dueExpiries
  refine (((List.Nodup.map ?_ (hlanes.filter _)).append (List.Nodup.map ?_ (hlanes.filter _)) ?_).append
    (List.Nodup.map ?_ ((List.nodup_finRange 128).filter _)) ?_).append (List.Nodup.map ?_ (hlinks.filter _)) ?_
  case refine_1 => exact fun _ _ h => Instr.settleTimerExpiry.inj h
  case refine_2 => exact fun _ _ h => Instr.claimWaitExpiry.inj h
  case refine_4 => exact fun _ _ h => Instr.claimLapse.inj h
  case refine_6 => exact fun _ _ h => Instr.gapTimerExpiry.inj h
  all_goals
    simp only [List.disjoint_left, List.mem_append, List.mem_map]
    rintro _ hother ⟨_, _, rfl⟩
    simp at hother

/-- Every timer is raised by a timebase step's first part, and nothing else changes. -/
theorem State.timersRaised_advanceTimers (s : State) (n : Nat) (q : List Instr) :
    s.TimersRaised { s.advanceTimers with choices := n, pending := q } := by
  have hlane := fun k => s.advanceTimers_lane k
  have hslot := fun i => s.advanceTimers_slot i
  have hport := fun l => s.advanceTimers_port l
  refine ⟨hlane, rfl, fun i v h => ?_, fun i h => ?_, fun i v c e h => ?_, fun l h => ?_, fun l bytes g h => ?_, fun l g h => ?_,
    rfl⟩
  · exact (hslot i).trans (by rw [h]; rfl)
  · exact (hslot i).trans (by rw [h]; rfl)
  · exact (hslot i).trans (by rw [h]; rfl)
  · exact (hport l).trans (by rw [LinkPort.tick, h, Receiver.tick, ← h])
  · exact (hport l).trans (by rw [LinkPort.tick, h]; rfl)
  · exact (hport l).trans (by rw [LinkPort.tick, h]; rfl)

/-- The model's own fields say nothing of a timer. -/
theorem State.atLimit_queue (s : State) (n : Nat) (q : List Instr) (c : Instr) :
    State.AtLimit { s with choices := n, pending := q } c ↔ s.AtLimit c := by
  cases c <;> exact Iff.rfl

/-- With at most one timer at its limit nothing is drawn. -/
theorem State.queueExpiries_choices {cs : List Instr} (h : cs.length ≤ 1) (s : State) :
    (s.queueExpiries cs.length cs).choices = s.choices := by
  cases cs with
  | nil => rfl
  | cons c rest =>
    obtain rfl : rest = [] := List.length_eq_zero_iff.mp (by simpa using h)
    exact (congrArg State.choices (State.queueExpiries_one 0 c s) :)

/-- Settles O3: the timers rise (`State.timersRaised_advanceTimers`), and the queue is a permutation of the expiries that have
come (`State.queueExpiries_spec`, `State.mem_dueExpiries`). -/
theorem idleStepRaisesTimers : Obligations.IdleStepRaisesTimers := by
  intro s hempty
  have hstep : step s = .next s.timebaseStep := by rw [step, hempty]
  refine ⟨fun hdown => by rw [hstep, State.timebaseStep, State.whenUp_down hdown], fun hup => ?_⟩
  rw [State.timebaseStep, State.whenUp_up hup] at hstep
  obtain ⟨⟨q, hperm, hpending⟩, hframe⟩ := State.queueExpiries_spec _ s.advanceTimers.dueExpiries s.advanceTimers le_rfl
  have hq : s.advanceTimers.pending ++ q = q := by rw [show s.advanceTimers.pending = s.pending from rfl, hempty]; rfl
  rw [hq] at hpending
  refine ⟨_, hstep, ?_, ?_, fun c => ?_, fun hone => ?_⟩
  · rw [hframe]
    exact s.timersRaised_advanceTimers _ _
  · rw [hpending]
    exact hperm.nodup_iff.mpr s.advanceTimers.nodup_dueExpiries
  · rw [hpending, hperm.mem_iff, State.mem_dueExpiries, hframe]
    exact (s.advanceTimers.atLimit_queue _ _ c).symm
  · refine State.queueExpiries_choices ?_ s.advanceTimers
    rw [hpending, hperm.length_eq] at hone
    exact hone

/-! ### The expiries of a claim and of a claim lapse (R61, R126) -/

theorem exec_claimLapse {s : State} (hup : s.isUp = true) (i : SlotId) :
    exec (.claimLapse i) s = .next (if (s.table.slot i).lapseDue then s.expireLapse i else s) :=
  congrArg Host.Outcome.next (State.whenUp_up hup _)

/-- Settles O23. -/
theorem claimLapse : Obligations.ClaimLapse := by
  intro s i hup
  have hexec := exec_claimLapse hup i
  have hrests : (s.table.slot i).lapseDue = false → exec (.claimLapse i) s = .next s := fun h => by
    rw [hexec, h]
    rfl
  refine ⟨fun v c e hslot hearly => hrests ?_, fun v c e hslot hdue => ?_, fun hfree => hrests ?_, fun v hslot => hrests ?_⟩
  · rw [hslot]
    exact decide_eq_false (Nat.not_le.mpr hearly)
  · have hlapse : exec (.claimLapse i) s = .next ((s.setTable (s.table.setSlot i (.issued v))).raise .checkout .lapse) := by
      rw [hexec, if_pos (by rw [hslot]; exact decide_eq_true hdue)]
      simp [State.expireLapse, hslot]
    refine ⟨_, hlapse, ?_, fun j hj => ?_, ?_, fun l hl => ?_, rfl⟩
    · exact VoucherTable.slot_setSlot_self _ _ _
    · exact VoucherTable.slot_setSlot_ne _ hj _
    · exact State.raise_port_self _ _ _
    · exact State.raise_port_ne _ _ hl
  · cases hslot : s.table.slot i with
    | free => rfl
    | issued v => rfl
    | claimed v c e => simp [hslot, VoucherSlot.used] at hfree
  · rw [hslot]
    rfl

theorem exec_claimWaitExpiry {s : State} (hup : s.isUp = true) (k : LaneId) :
    exec (.claimWaitExpiry k) s = .next (if s.claimWaitDue k then s.expireClaimWait k else s) :=
  congrArg Host.Outcome.next (State.whenUp_up hup _)

/-- A response that answers the request in flight, on a link whose frame has just been received. -/
theorem LinkPort.AnsweredByEvent.answered {p q : LinkPort} {f : List Byte} {n : Notices}
    (h : LinkPort.AnsweredByEvent { p with receiver := .idle } q f n) : p.Answered q f none n := by
  obtain ⟨hreceiver, _, hflight, hqueue, hnotices, hpower, hsending⟩ := h
  exact ⟨hreceiver, hflight, hqueue, hnotices, hpower, hsending⟩

/-- What a refusal leaves of the set (R43, R62). -/
theorem State.refuseClaim_claims (s : State) (k : LaneId) (reason : Reason) :
    (s.refuseClaim k reason).merge = { s.merge with claims := s.merge.claims.filter fun c => c.lane ≠ k } := by
  simp only [State.refuseClaim_merge, ne_eq, decide_not, beq_eq_decide]

theorem exec_cancel {s : State} {k : LaneId} (h : s.Takes (.lane k) .cancel) :
    exec (.cancel k) s = .next (takeCancel k (s.setReceiver (.lane k) .idle)) :=
  congrArg Host.Outcome.next (h.requestCompletes_eq rfl _)

/-- Settles O24. -/
theorem claimWaitExpiryAndCancel : Obligations.ClaimWaitExpiryAndCancel := by
  intro s k hup
  have hexec := exec_claimWaitExpiry hup k
  have hrests : s.claimWaitDue k = false → exec (.claimWaitExpiry k) s = .next s := fun h => by
    rw [hexec, h]
    rfl
  refine ⟨fun hnone => hrests ?_, fun c hc hearly => hrests ?_, fun c hc hdue => ?_, fun htakes => ⟨fun hflight => ?_,
    fun hflight => ?_, fun hflight => ?_⟩⟩
  · simp [State.claimWaitDue, Option.not_isSome_iff_eq_none.mp (Bool.not_eq_true _ ▸ hnone)]
  · simpa [State.claimWaitDue, hc] using hearly
  · rw [if_pos (by simpa [State.claimWaitDue, hc] using hdue), State.expireClaimWait, if_pos (by rw [hc]; rfl)] at hexec
    exact ⟨_, hexec, s.refuseClaim_claims k _, s.refuseClaim_answers k .noSlot, fun l hl => s.refuseClaim_port_ne _ hl, rfl⟩
  all_goals
    have hcancel := exec_cancel htakes
    simp only [takeCancel, State.setReceiver_port_self, hflight] at hcancel
  · have hanswers := (s.setReceiver (.lane k) .idle).refuseClaim_answers k .cancelled
    simp only [State.setReceiver_port_self] at hanswers
    refine ⟨_, hcancel, State.refuseClaim_claims _ k _, hanswers.answered, fun l hl => ?_, rfl⟩
    rw [State.refuseClaim_port_ne _ _ hl, State.setReceiver_port_ne _ _ hl]
  · exact State.linkRefuses_of_exec hcancel
  · exact State.linkRefuses_of_exec hcancel

/-! ### RESET and the loss of main supply (R145, R146) -/

/-- Settles O17: both commands lose the volatile domain (`State.loseVolatile`). -/
theorem resetAndSupplyLoss : Obligations.ResetAndSupplyLoss := by
  intro s
  have hdown : s.assertReset.isUp = false := State.isUp_setPhase_of_ne _ (by split <;> simp)
  refine ⟨s.assertReset, rfl, hdown, rfl, fun backupFails => ⟨s.loseSupply backupFails, rfl, rfl, rfl, fun x hx => ?_⟩⟩
  obtain ⟨supply, rfl⟩ : ∃ supply, x = { s.loseVolatile with supply := supply } := by
    rcases hx with rfl | rfl <;> exact ⟨_, rfl⟩
  have hport := s.blanked_loseVolatile.port
  have hlane := s.loseVolatile_lane
  refine ⟨rfl, rfl, fun l => ?_, rfl, rfl, rfl, rfl, rfl, rfl, rfl, rfl, fun k => getElem_mapAll _ _ _ _, fun k => ?_⟩
  · rw [State.port_mk, hport]
    exact ⟨rfl, rfl⟩
  · rw [State.lane_mk, hlane]
    exact ⟨rfl, rfl, rfl, rfl, rfl⟩

/-! ### The cold start (R147) -/

theorem State.holdUpLane_of_parked {s : State} {k : LaneId} (h : (s.lane k).state = .parked) : s.holdUpLane k = s := by
  simp [State.holdUpLane, h]

theorem State.setPower_of_set {s : State} {l : Link} (h : (s.port l).power = true) : s.setPower l = s := by
  have hport : { s.port l with power := true } = s.port l := by rw [← h]
  rw [State.setPower, hport, State.setPort_port]

theorem State.raise_of_set {s : State} {l : Link} {n : Notice} (h : (s.port l).notices.set n = (s.port l).notices) :
    s.raise l n = s := by
  have hport : { s.port l with notices := (s.port l).notices.set n } = s.port l := by rw [h]
  rw [State.raise, hport, State.setPort_port]

/-- Right after a start HOLD-UP finds nothing left to do: the belt stands, held is yes, the lanes and the lane modes are PARKED,
and the links have their power flags and the SUPPLY notice (R150, R152, R164). -/
theorem State.enterHoldUp_of_started {s : State} (henable : s.belt.enable = false) (hstands : s.belt.running = false)
    (hheld : s.merge.held = true) (hparked : ∀ k, (s.lane k).state = .parked)
    (hmodes : s.plans.active.parkModes = s.plans.active) (hports : ∀ l, s.port l = .started (l == .office)) :
    s.enterHoldUp = s.setSupplyState .holdUp := by
  have hrun : (s.setSupplyState .holdUp).reevaluateRunning = s.setSupplyState .holdUp :=
    if_pos (by simp [State.runConditions, State.setSupplyState, henable, hstands])
  have hreform : (s.setSupplyState .holdUp).reformHeld = s.setSupplyState .holdUp :=
    State.reformHeld_of_formed (by simp [State.heldCauses, State.setSupplyState, hstands, hheld])
  have hlanes : laneIds.foldl State.holdUpLane (s.setSupplyState .holdUp) = s.setSupplyState .holdUp := by
    have hlane : ∀ k, (s.setSupplyState .holdUp).holdUpLane k = s.setSupplyState .holdUp := fun k =>
      State.holdUpLane_of_parked (hparked k)
    simp [laneIds, hlane]
  have hplans : ({ s.setSupplyState .holdUp with
      plans := { (s.setSupplyState .holdUp).plans with active := (s.setSupplyState .holdUp).plans.active.parkModes } } : State) =
      s.setSupplyState .holdUp :=
    State.ext_fields rfl rfl rfl rfl rfl rfl rfl rfl rfl rfl (congrArg (PlanUnit.mk s.plans.staged) hmodes) rfl rfl rfl
  have hpower : links.foldl State.setPower (s.setSupplyState .holdUp) = s.setSupplyState .holdUp := by
    have hlink : ∀ l, (s.setSupplyState .holdUp).setPower l = s.setSupplyState .holdUp := fun l =>
      State.setPower_of_set (congrArg LinkPort.power (hports l))
    simp [links, hlink]
  have hnotice : (s.setSupplyState .holdUp).raise .office .supply = s.setSupplyState .holdUp :=
    State.raise_of_set (by rw [show (s.setSupplyState .holdUp).port .office = _ from hports .office]; rfl)
  simp only [State.enterHoldUp]
  rw [hrun, hreform, hlanes, hplans, hpower, hnotice]

/-- Settles O18. -/
theorem coldStart : Obligations.ColdStart := by
  intro o lines s hmarker
  have hexec : exec (.start o lines none) s = .next (s.fullStart o lines) := rfl
  have hhold : (s.coldWork.finishStart .cold lines).enterHoldUp = (s.coldWork.finishStart .cold lines).setSupplyState .holdUp :=
    State.enterHoldUp_of_started rfl rfl rfl (fun k => congrArg Lane.state (s.coldWork_lane k)) (show Plan.cold.parkModes = Plan.cold from rfl)
      (State.finishStart_port _ _ _)
  rw [hexec]
  simp only [State.fullStart, hmarker, Bool.false_eq_true, if_false, hhold]
  cases lines.supwarn <;> rfl

end Sys2Proof.Machine
end

section
/-! Session closes and resolutions of the head in the terms of the obligations: what a close hands over (R49, R52), and what a
match or a missing declaration leaves before the session that it may end is closed (R86, R87). -/

namespace Sys2Proof.Machine

/-! ### A session close (R49) -/

/-- The credit that a close hands over (R49 step 1). -/
def Lane.closeAmount (l : Lane) : Nat := l.firmCredit + l.unconfirmedCredit

/-- The count that a close hands over (R49 step 1). -/
def Lane.closeCount (l : Lane) : Nat := l.firmCount + l.unconfirmedCount

/-- The close record of a session that held slot `i` (R49 step 4). -/
theorem Lane.closeRecord_settled {l : Lane} {i : SlotId} (h : l.slot = some i) (k : LaneId) (power : Bool) (t : VoucherTable) :
    l.closeRecord k power (t.settleHeld l.slot (l.closeVoucher k power)) =
      { voucher := if 0 < l.closeAmount then some (i, t.serial + 1) else none
        amount := l.closeAmount, count := l.closeCount, unconfirmed := l.unconfirmedCount, powerClosed := power } := by
  rw [h]
  unfold Lane.closeRecord VoucherTable.settleHeld VoucherTable.settleSlot
  by_cases hpos : 0 < (l.closeVoucher k power).amount
  · have hpos' : 0 < l.closeAmount := hpos
    simp only [hpos, if_true, h, Option.map_some, hpos']
    rfl
  · have hpos' : ¬ 0 < l.closeAmount := hpos
    simp only [hpos, if_false, hpos']
    rfl

theorem CloseRecord.response_settled (i : SlotId) (serial : Serial) (amount count unconfirmed : Nat) (power : Bool) :
    CloseRecord.response
        { voucher := if 0 < amount then some (i, serial) else none
          amount := amount, count := count, unconfirmed := unconfirmed, powerClosed := power } =
      closeResponse i serial amount count unconfirmed power := by
  unfold CloseRecord.response closeResponse
  by_cases hpos : 0 < amount <;> simp [hpos]

/-- A close touches the lane's link, its context, its records and the table, and nothing else. -/
theorem State.closeSession_frame (s : State) (k : LaneId) (power : Bool) :
    s.closeSession k power = { s with
      ports := (s.closeSession k power).ports, lanes := (s.closeSession k power).lanes
      transit := (s.closeSession k power).transit, table := (s.closeSession k power).table } := by
  apply State.ext_fields <;> simp

/-- The table after a session that held slot `i` is closed (R49, R120). -/
theorem State.closeSession_table_of_slot {s : State} {k : LaneId} {i : SlotId} (hslot : (s.lane k).slot = some i) (power : Bool) :
    (s.closeSession k power).table = s.table.settleSlot i ((s.lane k).closeVoucher k power) := by
  rw [State.closeSession_settles, hslot]
  rfl

/-- A session that held slot `i` is closed as R49 says. -/
theorem State.closeSession_closed {s : State} {k : LaneId} {i : SlotId} (hslot : (s.lane k).slot = some i) (power : Bool) :
    s.SessionClosed (s.closeSession k power) k i (s.lane k).closeAmount (s.lane k).closeCount (s.lane k).unconfirmedCount power
      ((s.lane k).parkPending || power) := by
  have htable := State.closeSession_table_of_slot hslot power
  refine ⟨?_, fun j hj => by rw [State.closeSession_lane, if_neg hj], fun hpos => ?_, fun hzero => ?_⟩
  · rw [State.closeSession_lane, if_pos rfl, State.closeSession_settles, Lane.closeRecord_settled hslot]
    rfl
  · have hissue : (s.closeSession k power).table = s.table.issue i ((s.lane k).closeVoucher k power) := by
      rw [htable]
      exact if_pos hpos
    rw [hissue]
    refine ⟨?_, fun j hj => ?_, rfl, rfl⟩
    · exact VoucherTable.slot_setSlot_self _ _ _
    · exact VoucherTable.slot_setSlot_ne _ hj _
  · have hpush : (s.closeSession k power).table = s.table.push i := by
      rw [htable]
      exact if_neg (by rw [show ((s.lane k).closeVoucher k power).amount = (s.lane k).closeAmount from rfl, hzero]; exact lt_irrefl 0)
    rw [hpush]
    exact ⟨rfl, rfl⟩

/-- The link of a lane after a close: its END is answered, and the STATE notice is set where the lane parks (R49, R57). -/
def LinkPort.closed (p : LinkPort) (parks : Bool) (r : Response) : LinkPort :=
  (if p.inFlight = some .endSession then { p.enqueue r.frame with inFlight := none } else p).noticed parks

theorem State.closeSession_port_closed (s : State) (k : LaneId) (power : Bool) :
    (s.closeSession k power).port (.lane k) = (s.port (.lane k)).closed ((s.lane k).parkPending || power)
      ((s.lane k).closeRecord k power (s.closeSession k power).table).response := by
  rw [State.closeSession_port]
  rfl

/-- The END of a session that held slot `i` is answered by the close, with the STATE notice where the lane parks (R49, R57). -/
theorem State.closeSession_answers {s : State} {k : LaneId} {i : SlotId} (hslot : (s.lane k).slot = some i)
    (hend : (s.port (.lane k)).inFlight = some .endSession) (power : Bool) :
    (s.port (.lane k)).AnsweredByEvent ((s.closeSession k power).port (.lane k))
      (closeResponse i (s.table.serial + 1) (s.lane k).closeAmount (s.lane k).closeCount (s.lane k).unconfirmedCount power).frame
      ((s.port (.lane k)).noticed ((s.lane k).parkPending || power)).notices := by
  rw [State.closeSession_port_closed, State.closeSession_settles, Lane.closeRecord_settled hslot, LinkPort.closed, if_pos hend,
    CloseRecord.response_settled]
  have hanswered := LinkPort.answeredByEvent_enqueue (s.port (.lane k)) (closeResponse i (s.table.serial + 1)
    (s.lane k).closeAmount (s.lane k).closeCount (s.lane k).unconfirmedCount power).frame
  unfold LinkPort.noticed
  split
  · obtain ⟨hreceiver, hidle, hflight, hqueue, hnotices, hrest⟩ := hanswered
    refine ⟨hreceiver, hidle, hflight, hqueue, ?_, hrest⟩
    exact congrArg (fun n : Notices => { n with state := true }) hnotices
  · exact hanswered

/-! ### A session that its last record ends (R50) -/

theorem detachAll_eq (k : LaneId) (q : List TransitRecord) : detachAll k q = q.map (TransitRecord.detachedFrom k) := by
  unfold detachAll TransitRecord.detachedFrom
  simp

/-- A lane with its unconfirmed figures formed for a close (R50, R51, R53). -/
def Lane.unconfirming (l : Lane) (credit count : Nat) : Lane := { l with unconfirmedCredit := credit, unconfirmedCount := count }

/-- A close of lane `k` with these unconfirmed figures. -/
def State.closeWith (s : State) (k : LaneId) (credit count : Nat) (power : Bool) : State :=
  (s.setLane k ((s.lane k).unconfirming credit count)).closeSession k power

theorem State.ordinaryClose_eq (s : State) (k : LaneId) : s.ordinaryClose k = s.closeWith k 0 0 false := rfl

theorem State.limitClose_eq (s : State) (k : LaneId) :
    s.limitClose k = s.closeWith k (s.lane k).transitCredit (s.lane k).transitCount false := rfl

theorem State.supplyClose_eq (s : State) (k : LaneId) :
    s.supplyClose k = s.closeWith k (s.lane k).transitCredit (s.lane k).transitCount true := rfl

section
variable (s : State) (k : LaneId) (credit count : Nat) (power : Bool)

@[simp] theorem State.closeWith_transit : (s.closeWith k credit count power).transit = detachAll k s.transit := by
  simp [State.closeWith]

theorem State.closeWith_lane_ne {j : LaneId} (hj : j ≠ k) : (s.closeWith k credit count power).lane j = s.lane j := by
  rw [State.closeWith, State.closeSession_lane, if_neg hj, State.lane_setLane_ne _ hj]

theorem State.closeWith_port_ne {l : Link} (hl : l ≠ .lane k) : (s.closeWith k credit count power).port l = s.port l := by
  rw [State.closeWith, State.closeSession_port_ne _ _ hl, State.setLane_port]

theorem State.closeWith_frame :
    s.closeWith k credit count power = { s with
      ports := (s.closeWith k credit count power).ports, lanes := (s.closeWith k credit count power).lanes
      transit := (s.closeWith k credit count power).transit, table := (s.closeWith k credit count power).table } := by
  apply State.ext_fields <;> simp [State.closeWith]

/-- A session that held slot `i` is closed as R49 says. -/
theorem State.closeWith_closed {i : SlotId} (hslot : (s.lane k).slot = some i) :
    s.SessionClosed (s.closeWith k credit count power) k i ((s.lane k).firmCredit + credit) ((s.lane k).firmCount + count) count
      power ((s.lane k).parkPending || power) := by
  have hslot' : ((s.setLane k ((s.lane k).unconfirming credit count)).lane k).slot = some i := by
    rw [State.lane_setLane_self]
    exact hslot
  have hclosed := State.closeSession_closed hslot' power
  rw [State.lane_setLane_self] at hclosed
  obtain ⟨hlane, _, htable⟩ := hclosed
  exact ⟨hlane, fun j hj => s.closeWith_lane_ne k credit count power hj, htable⟩

/-- The END of such a session is answered by the close (R49, R57). -/
theorem State.closeWith_answers {i : SlotId} (hslot : (s.lane k).slot = some i)
    (hend : (s.port (.lane k)).inFlight = some .endSession) :
    (s.port (.lane k)).AnsweredByEvent ((s.closeWith k credit count power).port (.lane k))
      (closeResponse i (s.table.serial + 1) ((s.lane k).firmCredit + credit) ((s.lane k).firmCount + count) count power).frame
      ((s.port (.lane k)).noticed ((s.lane k).parkPending || power)).notices := by
  have hslot' : ((s.setLane k ((s.lane k).unconfirming credit count)).lane k).slot = some i := by
    rw [State.lane_setLane_self]
    exact hslot
  have hanswers := State.closeSession_answers hslot' hend power
  rw [State.lane_setLane_self] at hanswers
  exact hanswers

/-- Of the table's totals a close writes the issued total alone (R120). -/
theorem State.closeWith_totals :
    (s.closeWith k credit count power).table =
      { (s.closeWith k credit count power).table with
        totals := { s.table.totals with issued := (s.closeWith k credit count power).table.totals.issued } } := by
  rw [State.closeWith, State.closeSession_settles]
  unfold VoucherTable.settleHeld VoucherTable.settleSlot
  split
  · split <;> rfl
  · rfl

end

/-- What the model closes at a match or missing declaration is what R50 says. -/
theorem State.endsIfSettled_closeIfSettled (s : State) (k : LaneId) : s.EndsIfSettled (s.closeIfSettled k) k := by
  refine ⟨fun hnot => if_neg hnot, fun i hst hcount hslot hend => ?_⟩
  have hclose : s.closeIfSettled k = s.closeWith k 0 0 false := if_pos ⟨hst, hcount⟩
  have hclosed := s.closeWith_closed k 0 0 false hslot
  have hanswers := s.closeWith_answers k 0 0 false hslot hend
  rw [Bool.or_false] at hclosed hanswers
  rw [hclose]
  refine ⟨hclosed, ?_, hanswers, fun l hl => s.closeWith_port_ne k 0 0 false hl, ?_⟩
  · rw [State.closeWith_transit, detachAll_eq]
  · rw [← State.closeWith_totals]
    exact s.closeWith_frame k 0 0 false

/-! ### The period totals at a resolution (R93) -/

/-- The totals changed by a function that leaves the issued total to the closes. -/
def State.tallied (s : State) (f : Totals → Totals) : State := s.setTotals (f s.table.totals)

/-- A function of the totals that neither reads nor writes the issued total. -/
structure LeavesIssued (f : Totals → Totals) : Prop where
  commutes : ∀ t n, f { t with issued := n } = { f t with issued := n }
  keeps : ∀ t, (f t).issued = t.issued

theorem VoucherTable.settleSlot_tallied {f : Totals → Totals} (hf : LeavesIssued f) (t : VoucherTable) (i : SlotId) (v : Voucher) :
    VoucherTable.settleSlot { t with totals := f t.totals } i v =
      { t.settleSlot i v with totals := f (t.settleSlot i v).totals } := by
  unfold VoucherTable.settleSlot
  split
  · have htotals : ({ f t.totals with issued := satAdd (f t.totals).issued v.amount } : Totals) =
        f { t.totals with issued := satAdd t.totals.issued v.amount } := by
      rw [hf.keeps t.totals]
      exact (hf.commutes t.totals _).symm
    exact congrArg (fun x => { t.issue i v with totals := x }) htotals
  · rfl

theorem VoucherTable.settleHeld_tallied {f : Totals → Totals} (hf : LeavesIssued f) (t : VoucherTable) (o : Option SlotId)
    (v : Voucher) :
    VoucherTable.settleHeld { t with totals := f t.totals } o v =
      { t.settleHeld o v with totals := f (t.settleHeld o v).totals } := by
  cases o with
  | none => rfl
  | some i => exact VoucherTable.settleSlot_tallied hf t i v

/-- A close and a count in another total do not meet. -/
theorem State.closeSession_tallied {f : Totals → Totals} (hf : LeavesIssued f) (s : State) (k : LaneId) (power : Bool) :
    (s.tallied f).closeSession k power = (s.closeSession k power).tallied f := by
  have htable : ((s.tallied f).closeSession k power).table = ((s.closeSession k power).tallied f).table := by
    rw [State.closeSession_settles]
    refine (VoucherTable.settleHeld_tallied hf s.table (s.lane k).slot ((s.lane k).closeVoucher k power)).trans ?_
    rw [← State.closeSession_settles]
    rfl
  have hrecord : (s.lane k).closeRecord k power ((s.tallied f).closeSession k power).table =
      (s.lane k).closeRecord k power (s.closeSession k power).table := by rw [htable]; rfl
  refine State.ext_fields (State.ports_ext fun m => ?_) (by simp [State.tallied]) (by simp [State.tallied])
    (by simp [State.tallied]) (State.lanes_ext fun j => ?_) (by simp [State.tallied]) (by simp [State.tallied])
    (by simp [State.tallied]) (by simp [State.tallied]) htable (by simp [State.tallied]) (by simp [State.tallied])
    (by simp [State.tallied]) (by simp [State.tallied])
  · have hport : (s.tallied f).port m = s.port m := rfl
    by_cases hm : m = .lane k
    · subst hm
      rw [State.closeSession_port_closed, hport]
      simp only [State.tallied, State.setTotals_port, State.setTotals_lane, State.closeSession_port_closed] at hrecord ⊢
      rw [hrecord]
    · simp only [State.tallied, State.setTotals_port, State.closeSession_port_ne _ _ hm]
  · simp only [State.tallied, State.setTotals_lane, State.closeSession_lane] at hrecord ⊢
    rw [hrecord]

theorem State.closeIfSettled_tallied {f : Totals → Totals} (hf : LeavesIssued f) (s : State) (k : LaneId) :
    (s.tallied f).closeIfSettled k = (s.closeIfSettled k).tallied f := by
  have hlane : (s.tallied f).lane k = s.lane k := rfl
  unfold State.closeIfSettled
  rw [hlane]
  split
  · exact State.closeSession_tallied hf (s.setLane k ((s.lane k).unconfirming 0 0)) k false
  · rfl

end Sys2Proof.Machine
end

section
/-! The lane requests OPEN, CONTAINER and END (R23, R24, R40, R41, R47), and the code tests of the checkout requests (R122). -/

namespace Sys2Proof.Machine

/-! ### OPEN (R40) -/

theorem exec_openSession {s : State} {k : LaneId} (h : s.Takes (.lane k) .openSession) :
    exec (.openSession k) s = .next (takeOpen k (s.setReceiver (.lane k) .idle)) :=
  congrArg Host.Outcome.next (h.requestCompletes_eq rfl _)

/-- Settles O32. -/
theorem openTakesSlot : Obligations.OpenTakesSlot := by
  intro s k htakes
  have hexec := exec_openSession htakes
  refine ⟨fun i rest hready hstack => ?_, fun hready hempty => ?_, fun hnot => ?_⟩
  · simp only [takeOpen, State.setReceiver_lane, State.setReceiver_table, hready, hstack] at hexec
    refine ⟨_, hexec, ?_, fun j hj => ?_, State.onlyAnswers_respond _ rfl, rfl⟩
    · rw [State.respond_lane, State.lane_setLane_self]
      rfl
    · rw [State.respond_lane, State.lane_setLane_ne _ hj]
      rfl
  · simp only [takeOpen, State.setReceiver_lane, State.setReceiver_table, hready, hempty] at hexec
    exact State.linkRefuses_of_exec hexec
  · refine State.linkRefuses_of_exec (hexec.trans (congrArg Host.Outcome.next ?_))
    simp only [takeOpen, State.setReceiver_lane]
    rfl

/-! ### The container report (R23) -/

theorem yesNo_of_le {b : Byte} (h : b.toNat ≤ 1) : yesNo b = some (b == 1) := by
  have hb : b = 0 ∨ b = 1 := by bv_omega
  rcases hb with rfl | rfl <;> rfl

theorem yesNo_of_gt {b : Byte} (h : 1 < b.toNat) : yesNo b = none := by
  rw [yesNo, if_neg (by bv_omega), if_neg (by bv_omega)]

theorem reportOf_of_range {r : RawReport} (hweight : r.weight.toNat ≤ 8191) (hpresent : r.keyPresent.toNat ≤ 1)
    (hshape : r.shapeOk.toNat ≤ 1) :
    reportOf r = some
      { key := if r.keyPresent == 1 then some r.key else none, weight := r.weight.toNat, shapeOk := r.shapeOk == 1 } := by
  simp only [reportOf, yesNo_of_le hpresent, yesNo_of_le hshape]
  exact if_pos hweight

theorem reportOf_eq_none {r : RawReport} (h : 8191 < r.weight.toNat ∨ 1 < r.keyPresent.toNat ∨ 1 < r.shapeOk.toNat) :
    reportOf r = none := by
  unfold reportOf
  split
  next present shape hpresent hshape =>
    rcases h with hweight | hp | hs
    · exact if_neg (by omega)
    · rw [yesNo_of_gt hp] at hpresent
      cases hpresent
    · rw [yesNo_of_gt hs] at hshape
      cases hshape
  next => rfl

/-! ### The recognition lookup (R19) -/

theorem RecogEntry.matches_iff (e : RecogEntry) (key : ArticleKey) :
    e.matches key = true ↔ e.enable = true ∧ key &&& e.mask = e.key &&& e.mask := by
  simp [RecogEntry.matches]

/-- The lookup ends at the first entry that matches. -/
theorem State.FoundClass.lookup {s : State} {key : ArticleKey} {c : ClassId} (h : s.FoundClass key c) :
    s.recog.lookup key = some c := by
  obtain ⟨i, henable, hmatch, rfl, hfirst⟩ := h
  have hfind : s.recog.entries.toList.find? (fun e => e.matches key) = some s.recog.entries[i] := by
    refine List.find?_eq_some_iff_getElem.mpr ⟨(RecogEntry.matches_iff _ _).mpr ⟨henable, hmatch⟩, i.val, by simp, by simp,
      fun j hj => ?_⟩
    have hbefore := hfirst ⟨j, by omega⟩ hj
    rw [← RecogEntry.matches_iff] at hbefore
    simpa using hbefore
  rw [Recognition.lookup, hfind]
  rfl

theorem State.NoEntryMatches.lookup {s : State} {key : ArticleKey} (h : s.NoEntryMatches key) : s.recog.lookup key = none := by
  have hfind : s.recog.entries.toList.find? (fun e => e.matches key) = none := by
    refine List.find?_eq_none.mpr fun e he => ?_
    obtain ⟨j, hj, rfl⟩ := List.mem_iff_getElem.mp he
    have hnot := h ⟨j, by simpa using hj⟩
    rw [← RecogEntry.matches_iff] at hnot
    simpa using hnot
  rw [Recognition.lookup, hfind]
  rfl

/-! ### CONTAINER (R24, R30, R41) -/

/-- A report with its key goes to the checks of the class found (Table 2-4). -/
theorem State.classify_found {s : State} {k : LaneId} {rep : Report} {key : ArticleKey} {cls : ClassId}
    (hkey : rep.key = some key) (hfound : s.FoundClass key cls) :
    s.classify k rep = match s.checkClass k rep s.recog.classes[cls] with
      | some reason => .error reason
      | none => .ok cls := by
  simp only [State.classify, hkey, hfound.lookup]
  rfl

/-- The reason of the first of checks 3 to 8 that fails. -/
theorem State.checkClass_eq_some {s : State} {k : LaneId} {rep : Report} {c : TariffClass} {reason : Reason}
    (h : (c.material = 0 ∧ reason = .classOff) ∨
      (c.material ≠ 0 ∧ ¬ s.MaterialOpen k c.material ∧ reason = .materialClosed) ∨
      (c.material ≠ 0 ∧ s.MaterialOpen k c.material ∧ ¬ c.WeighsIn rep.weight ∧ reason = .weight) ∨
      (c.material ≠ 0 ∧ s.MaterialOpen k c.material ∧ c.WeighsIn rep.weight ∧ ¬ c.ShapeIn rep.shapeOk ∧ reason = .shape) ∨
      (c.material ≠ 0 ∧ s.MaterialOpen k c.material ∧ c.WeighsIn rep.weight ∧ c.ShapeIn rep.shapeOk ∧
        ¬ s.CreditRoom k c.deposit ∧ reason = .sessionFull) ∨
      (c.material ≠ 0 ∧ s.MaterialOpen k c.material ∧ c.WeighsIn rep.weight ∧ c.ShapeIn rep.shapeOk ∧
        s.CreditRoom k c.deposit ∧ (∀ b, ¬ s.HasRoom c.material c.volume b) ∧ reason = .materialFull)) :
    s.checkClass k rep c = some reason := by
  rw [State.checkClass_eq]
  rcases h with ⟨hoff, rfl⟩ | ⟨hon, hclosed, rfl⟩ | ⟨hon, hopen, hweight, rfl⟩ | ⟨hon, hopen, hweight, hshape, rfl⟩ |
    ⟨hon, hopen, hweight, hshape, hcredit, rfl⟩ | ⟨hon, hopen, hweight, hshape, hcredit, hfull, rfl⟩
  · rw [if_pos hoff]
  · rw [if_neg hon, if_pos hclosed]
  · rw [if_neg hon, if_neg (not_not.mpr hopen), if_pos hweight]
  · rw [if_neg hon, if_neg (not_not.mpr hopen), if_neg (not_not.mpr hweight), if_pos hshape]
  · rw [if_neg hon, if_neg (not_not.mpr hopen), if_neg (not_not.mpr hweight), if_neg (not_not.mpr hshape), if_pos hcredit]
  · rw [if_neg hon, if_neg (not_not.mpr hopen), if_neg (not_not.mpr hweight), if_neg (not_not.mpr hshape),
      if_neg (not_not.mpr hcredit), if_pos hfull]

theorem exec_container {s : State} {k : LaneId} (h : s.Takes (.lane k) .container) (r : RawReport) :
    exec (.container k r) s = .next (takeContainer k r (s.setReceiver (.lane k) .idle)) :=
  congrArg Host.Outcome.next (h.requestCompletes_eq rfl _)

section
variable {u : State} {k : LaneId} {r : RawReport}

theorem takeContainer_range (h : reportOf r = none) :
    takeContainer k r u = u.respond (.lane k) (refusal .container .range) := by
  simp only [takeContainer, h]
  rfl

theorem takeContainer_state {rep : Report} (h : reportOf r = some rep) (hst : (u.lane k).state ≠ .active) :
    takeContainer k r u = u.respond (.lane k) (refusal .container .state) := by
  simp only [takeContainer, h]
  exact if_neg hst

theorem takeContainer_refused {rep : Report} {reason : Reason} (h : reportOf r = some rep) (hst : (u.lane k).state = .active)
    (hclass : u.classify k rep = .error reason) :
    takeContainer k r u = u.respond (.lane k) (refusal .container reason) := by
  simp only [takeContainer, h, hst, hclass]
  rfl

theorem takeContainer_joins {rep : Report} {cls : ClassId} (h : reportOf r = some rep) (hst : (u.lane k).state = .active)
    (hclass : u.classify k rep = .ok cls) : takeContainer k r u = (u.claimJoined k cls).mergePass := by
  simp only [takeContainer, h, hst, hclass]
  rfl

end

/-- Settles O33: the range check, the lane state and the checks of Table 2-4 in their order. -/
theorem containerRefused : Obligations.ContainerRefused := by
  intro s k r htakes
  have hexec := exec_container htakes r
  refine ⟨fun hrange => ?_, fun hweight hpresent hshape => ⟨fun hst => ?_, fun hst => ⟨fun hnokey => ?_, fun hkey hunknown => ?_,
    fun cls c reason hkey hfound hc hcheck => ?_⟩⟩⟩
  · rw [takeContainer_range (reportOf_eq_none hrange)] at hexec
    exact State.linkRefuses_of_exec hexec
  all_goals have hreport := reportOf_of_range hweight hpresent hshape
  · exact State.linkRefuses_of_exec (hexec.trans (congrArg Host.Outcome.next (takeContainer_state hreport hst)))
  all_goals refine State.linkRefuses_of_exec (hexec.trans (congrArg Host.Outcome.next (takeContainer_refused hreport hst ?_)))
  · simp [State.classify, hnokey]
  · simp [State.classify, hkey, hunknown.lookup]
  · have hfound' : (s.setReceiver (.lane k) .idle).FoundClass r.key cls := hfound
    rw [State.classify_found (by simp [hkey]) hfound', State.setReceiver_recog, hc, State.checkClass_eq_some hcheck]

/-- Settles O34. -/
theorem containerJoins : Obligations.ContainerJoins := by
  intro s k r cls c b htakes hweight hkey hshape hst hfound hc hmaterial hopen hweighs hshaped hcredit hroom
  have hexec := exec_container htakes r
  have hreport := reportOf_of_range hweight (by rw [hkey]; decide) hshape
  have hcheck : (s.setReceiver (.lane k) .idle).checkClass k
      { key := if r.keyPresent == 1 then some r.key else none, weight := r.weight.toNat, shapeOk := r.shapeOk == 1 } c = none :=
    State.checkClass_eq_none_iff.mpr ⟨hmaterial, hopen, hweighs, hshaped, hcredit, b, hroom⟩
  have hfound' : (s.setReceiver (.lane k) .idle).FoundClass r.key cls := hfound
  have hclass := State.classify_found (k := k) (rep := ⟨if r.keyPresent == 1 then some r.key else none, r.weight.toNat,
    r.shapeOk == 1⟩) (by simp [hkey]) hfound'
  rw [State.setReceiver_recog, hc, hcheck] at hclass
  have hjoins := hexec.trans (congrArg Host.Outcome.next (takeContainer_joins hreport hst hclass))
  subst hc
  refine ⟨_, hjoins, rfl, ?_, fun l hl => ?_, rfl⟩
  · rw [State.claimJoined, State.keepInFlight_port_self]
    exact congrArg (fun p : LinkPort => { p with inFlight := some .container }) (s.setReceiver_port_self _ _)
  · rw [State.claimJoined, State.keepInFlight_port_ne _ _ hl]
    exact s.setReceiver_port_ne _ hl

/-! ### END (R47) -/

theorem exec_endSession {s : State} {k : LaneId} (h : s.Takes (.lane k) .endSession) :
    exec (.endSession k) s = .next (takeEnd k (s.setReceiver (.lane k) .idle)) :=
  congrArg Host.Outcome.next (h.requestCompletes_eq rfl _)

theorem LinkPort.noticed_notices (p : LinkPort) (changed : Bool) :
    (p.noticed changed).notices = if changed then { p.notices with state := true } else p.notices := by
  unfold LinkPort.noticed
  split <;> rfl

/-- Settles O37: END is kept in flight, and the ordinary close answers it in the same event where nothing is in transit. -/
theorem endOfSession : Obligations.EndOfSession := by
  intro s k htakes
  have hexec := exec_endSession htakes
  refine ⟨fun i hst hcount hslot => ?_, fun hst hcount => ?_, fun hst => ?_⟩
  · simp only [takeEnd, State.setReceiver_lane, hst, hcount, if_true, State.ordinaryClose_eq] at hexec
    have hport : ((s.setReceiver (.lane k) .idle).keepInFlight (.lane k) .endSession).port (.lane k) =
        { s.port (.lane k) with receiver := .idle, inFlight := some .endSession } := by simp
    have hclosed := State.closeWith_closed ((s.setReceiver (.lane k) .idle).keepInFlight (.lane k) .endSession) k 0 0 false hslot
    have hanswers := State.closeWith_answers ((s.setReceiver (.lane k) .idle).keepInFlight (.lane k) .endSession) k 0 0 false
      hslot (by rw [hport])
    rw [hport, LinkPort.noticed_notices] at hanswers
    rw [Bool.or_false] at hclosed hanswers
    rw [LinkPort.noticed_notices]
    refine ⟨_, hexec, hclosed, ?_, hanswers.answered, fun l hl => ?_, ?_⟩
    · rw [State.closeWith_transit, detachAll_eq]
      rfl
    · rw [State.closeWith_port_ne _ _ _ _ _ hl, State.keepInFlight_port_ne _ _ hl, State.setReceiver_port_ne _ _ hl]
    · conv_lhs => rw [State.closeWith_frame, State.closeWith_totals]
      rfl
  · simp only [takeEnd, State.setReceiver_lane, hst, Nat.ne_of_gt hcount, if_false] at hexec
    refine ⟨_, hexec, ?_, fun j hj => ?_, ?_, fun l hl => ?_, rfl⟩
    · simp [State.beginSettling]
    · simp [State.beginSettling, hj]
    · simp [State.beginSettling]
    · simp [State.beginSettling, hl]
  · refine State.linkRefuses_of_exec (hexec.trans (congrArg Host.Outcome.next ?_))
    rcases hst with hst | hst <;> simp only [takeEnd, State.setReceiver_lane, hst] <;> rfl

/-! ### The code tests (R122) -/

/-- The last of eight digits. -/
theorem drop_seven_eq_iff {digits : List Nat} (hlen : digits.length = 8) (d : Nat) :
    digits.drop 7 = [d] ↔ digits.getLast? = some d := by
  have hlast : digits.drop 7 = [digits[7]] := by
    rw [List.drop_eq_getElem_cons (by omega), List.drop_eq_nil_of_le (by omega)]
  rw [hlast, List.getLast?_eq_getElem?]
  simp [hlen]

/-- Tests 1 and 2: the checkout and the digits. -/
theorem VoucherTable.validate_range (t : VoucherTable) {c : Byte} {code : List Byte}
    (h : ¬ (1 ≤ c.toNat ∧ c.toNat ≤ 15) ∨ ∃ d ∈ code.map BitVec.toNat, 9 < d) : t.validate c code = .error .range := by
  unfold VoucherTable.validate
  by_cases hc : 1 ≤ c.toNat ∧ c.toNat ≤ 15
  · obtain ⟨d, hd, hbig⟩ := h.resolve_left (not_not.mpr hc)
    have hall : ((code.map BitVec.toNat).all (· ≤ 9)) = false := List.all_eq_false.mpr ⟨d, hd, by simpa using hbig⟩
    simp [hc, hall]
  · rw [if_pos (by simpa [not_and_or, -not_and] using hc)]

/-- Past tests 1 and 2 the check digit decides, and then the slot and its serial. -/
theorem VoucherTable.validate_digits (t : VoucherTable) {c : Byte} {code : List Byte} (hlen : code.length = 8)
    (hc : 1 ≤ c.toNat ∧ c.toNat ≤ 15) (hdigits : ∀ d ∈ code.map BitVec.toNat, d ≤ 9) :
    t.validate c code =
      if (code.map BitVec.toNat).getLast? = some (checkDigit ((code.map BitVec.toNat).take 7)) then
        t.find c.toNat (digitsNumber ((code.map BitVec.toNat).take 7))
      else .error .badCode := by
  have hall : ((code.map BitVec.toNat).all (· ≤ 9)) = true := List.all_eq_true.mpr fun d hd => by simpa using hdigits d hd
  have hlast := drop_seven_eq_iff (digits := code.map BitVec.toNat) (by simpa using hlen)
    (checkDigit ((code.map BitVec.toNat).take 7))
  unfold VoucherTable.validate
  simp only [hc.1, hc.2, hall, ne_eq, hlast, decide_true, Bool.and_self, Bool.not_true, Bool.false_eq_true, if_false, ite_not]

/-- Tests 4 to 6: no such slot, a FREE slot, or another serial. -/
theorem VoucherTable.find_noVoucher (t : VoucherTable) (c : Nat) {n : Nat}
    (h : 128 ≤ n / 65536 ∨ ∃ i : SlotId, i.val = n / 65536 ∧
      (t.slot i = .free ∨ (∃ v : Voucher, t.slot i = .issued v ∧ v.serial.toNat ≠ n % 65536) ∨
        ∃ v d e, t.slot i = .claimed v d e ∧ v.serial.toNat ≠ n % 65536)) :
    t.find c n = .error .noVoucher := by
  unfold VoucherTable.find
  rcases h with hbig | ⟨i, hi, hslot⟩
  · rw [dif_neg (Nat.not_lt.mpr hbig)]
  · have hlt : n / 65536 < 128 := hi ▸ i.isLt
    obtain rfl : i = ⟨n / 65536, hlt⟩ := Fin.ext hi
    rw [dif_pos hlt]
    rcases hslot with hfree | ⟨v, hissued, hserial⟩ | ⟨v, d, e, hclaimed, hserial⟩
    · simp [hfree]
    · simp [hissued, hserial]
    · simp [hclaimed, hserial]

/-- A presented code that fails a test is refused, whatever the request. -/
theorem refused_of_validate {s : State} {c : Byte} {code : List Byte} {cmd : Instr} {k : ReqKind} {reason : Reason}
    (hlen : code.length = 8)
    (hcmd : cmd = .claim c code ∧ k = .claim ∨ cmd = .redeem c code ∧ k = .redeem ∨ cmd = .unclaim c code ∧ k = .unclaim)
    (htakes : s.Takes .checkout k) (herror : s.table.validate c code = .error reason) : s.LinkRefuses cmd .checkout k reason := by
  have hbody : ReqKind.lengthOk .claim (code.length + 1) = true := by rw [hlen]; rfl
  refine State.linkRefuses_of_exec ?_
  rcases hcmd with ⟨rfl, rfl⟩ | ⟨rfl, rfl⟩ | ⟨rfl, rfl⟩
  · refine congrArg Host.Outcome.next ((htakes.requestCompletes_eq hbody _).trans ?_)
    simp [takeClaim, closesCursor, herror, State.refuse, refusal]
  · refine congrArg Host.Outcome.next ((htakes.requestCompletes_eq hbody _).trans ?_)
    simp [takeRedeem, closesCursor, herror, State.refuse, refusal]
  · refine congrArg Host.Outcome.next ((htakes.requestCompletes_eq hbody _).trans ?_)
    simp [takeUnclaim, closesCursor, herror, State.refuse, refusal]

/-- Settles O40. -/
theorem codeTestsRefuse : Obligations.CodeTestsRefuse := by
  rintro s c code cmd k reason hlen hcmd htakes digits n rfl rfl hcase
  refine refused_of_validate hlen hcmd htakes ?_
  rcases hcase with ⟨hc, rfl⟩ | ⟨hc, hbig, rfl⟩ | ⟨hc, hdigits, hcheck, rfl⟩ | ⟨hc, hdigits, hcheck, rfl, hslot⟩
  · exact s.table.validate_range (.inl hc)
  · exact s.table.validate_range (.inr hbig)
  · rw [s.table.validate_digits hlen hc hdigits, if_neg hcheck]
  · rw [s.table.validate_digits hlen hc hdigits, if_pos hcheck, s.table.find_noVoucher _ hslot]

end Sys2Proof.Machine
end

section
/-! The office requests that read, and those that write one part: RECOG-WRITE, PLAN-STAGE, and the belt and bin requests
(Chapters 1, 2, 6 and 8). -/

namespace Sys2Proof.Machine

/-! ### An office request at its owner (R32, R157) -/

/-- The state in which the owner of an office request but TARIFF-DATA is asked: the receiver is in IDLE and the cursor is
closed (R32, R155). -/
abbrev State.asked (s : State) : State := (s.setReceiver .office .idle).closeCursor

/-- An office request that is taken goes to its owner with the fields of its body. -/
theorem exec_office {c : Instr} {k : ReqKind} {body : List Byte} {s : State} (h : requestOf c = some (.office, k, body))
    (htakes : s.Takes .office k) (hlength : k.lengthOk body.length = true) (hk : k ≠ .tariffData) :
    exec c s = .next (takeBody .office k body s.asked) := by
  rw [exec_request h, htakes.requestCompletes_eq hlength]
  simp [closesCursor, hk, State.asked]

/-- CORNER-STATUS is taken in both supply states (R151). -/
theorem exec_cornerStatus {s : State} (hup : s.isUp = true) (hqueue : (s.port .office).outQueue.length < 3)
    (hflight : (s.port .office).inFlight = none) : exec .cornerStatus s = .next (takeCornerStatus s.asked) := by
  have hbusy : ((s.setReceiver .office .idle).port .office).passesBusy .cornerStatus = true := by
    simp [LinkPort.passesBusy, hflight]
  refine congrArg Host.Outcome.next ((State.frameCompletes_tested hup hqueue _).trans ?_)
  simp only [State.testRequest, hbusy]
  simp [ReqKind.lengthOk, State.handOn, closesCursor, State.asked]

theorem State.officeReports_of_exec {s : State} {c : Instr} {r : Response} (h : exec c s = .next (s.asked.respond .office r)) :
    s.OfficeReports c r := ⟨_, h, State.onlyAnswers_respond r rfl, rfl⟩

theorem State.officeRefuses_of_exec {s : State} {c : Instr} {k : ReqKind} {reason : Reason}
    (h : exec c s = .next (s.asked.refuseOffice k reason)) : s.OfficeRefuses c k reason :=
  ⟨_, h, State.onlyAnswers_respond _ rfl, rfl⟩

/-! ### Small identifiers and selectors (R166, R171) -/

theorem entryOf_of_toNat {b : Byte} {i : EntryId} (h : b.toNat = i.val) : entryOf b = some i := by
  have hlt : b.toNat < 64 := h ▸ i.isLt
  rw [entryOf, dif_pos hlt]
  exact congrArg some (Fin.ext h)

theorem entryOf_ofNat (i : EntryId) : entryOf (.ofNat 8 i.val) = some i :=
  entryOf_of_toNat (by rw [BitVec.toNat_ofNat]; omega)

theorem entryOf_of_ge {b : Byte} (h : 64 ≤ b.toNat) : entryOf b = none := dif_neg (Nat.not_lt.mpr h)

theorem classOf_of_toNat {b : Byte} {c : ClassId} (h : b.toNat = c.val) : classOf b = some c := by
  have hlt : b.toNat < 32 := h ▸ c.isLt
  rw [classOf, dif_pos hlt]
  exact congrArg some (Fin.ext h)

/-- Chute `b + 1` stands before bin `b` (R98). -/
theorem binOf_ofNat (b : BinId) : binOf (.ofNat 8 (b.val + 1)) = some b := by
  have hb : (BitVec.ofNat 8 (b.val + 1)).toNat = b.val + 1 := by rw [BitVec.toNat_ofNat]; omega
  rw [binOf, dif_pos (by omega)]
  exact congrArg some (Fin.ext (by simp only [hb, Nat.add_sub_cancel]))

theorem binOf_out {b : Byte} (h : b.toNat = 0 ∨ 7 < b.toNat) : binOf b = none := dif_neg (by omega)

/-- A selector byte names one part, and no other byte does (R171). -/
theorem PartSel.ofByte_eq_some_iff {b : Byte} {p : PartSel} : PartSel.ofByte b = some p ↔ b = p.byte := by
  constructor
  · intro h
    simp only [PartSel.ofByte] at h
    split_ifs at h <;> cases h <;> simp only [PartSel.byte] <;> bv_omega
  · rintro rfl
    cases p with
    | corner => rfl
    | lane k => fin_cases k <;> rfl
    | bin b => fin_cases b <;> rfl

theorem PartSel.ofByte_byte (p : PartSel) : PartSel.ofByte p.byte = some p := PartSel.ofByte_eq_some_iff.mpr rfl

theorem PartSel.ofByte_eq_none {b : Byte} (h : ∀ p : PartSel, b ≠ p.byte) : PartSel.ofByte b = none :=
  Option.eq_none_iff_forall_ne_some.mpr fun p hp => h p (PartSel.ofByte_eq_some_iff.mp hp)

theorem activeSelected_yesNoByte (active : Bool) : activeSelected (yesNoByte active) = some active := by
  cases active <;> rfl

/-! ### The requests that read -/

/-- The holder of a FREE slot that a session holds is its lane (R129). -/
theorem State.holderByte_of_held {s : State} (h : s.SlotsConserved) {i : SlotId} {k : LaneId} (hslot : (s.lane k).slot = some i) :
    s.holderByte i = .ofNat 8 k.val := by
  obtain ⟨_, hstack, hheld, _⟩ := h
  have hnot : i ∉ s.table.stack := fun hmem => (hstack i hmem).2 k hslot
  have hmem : ∀ j : LaneId, j ∈ laneIds := by decide
  rw [State.holderByte, if_neg hnot]
  cases hfind : laneIds.find? fun j => (s.lane j).slot == some i with
  | none => exact absurd (by simpa using hslot) (List.find?_eq_none.mp hfind k (hmem k))
  | some j =>
    have hj : (s.lane j).slot = some i := by simpa using List.find?_some hfind
    rw [(hheld i k hslot).2 j hj]

/-- Settles O42. -/
theorem readRequests : Obligations.ReadRequests := by
  intro s
  refine ⟨fun k htakes => ?_, fun hup hqueue hflight => ⟨?_, fun hsupply => ?_⟩⟩
  · have hexec : exec (.laneQuery k) s = .next (takeLaneQuery k (s.setReceiver (.lane k) .idle)) :=
      congrArg Host.Outcome.next (htakes.requestCompletes_eq rfl _)
    exact ⟨_, hexec, State.onlyAnswers_respond _ rfl, rfl⟩
  · exact State.officeReports_of_exec (exec_cornerStatus hup hqueue hflight)
  have htakes : ∀ k, s.Takes .office k := State.takes_of_idle hup hqueue hflight hsupply
  have hrecog : ∀ b, exec (.recogRead b) s = .next (takeRecogRead b s.asked) := fun b =>
    (exec_office (c := .recogRead b) rfl (htakes _) rfl (by decide) :)
  have htariff : ∀ b, exec (.tariffRead b) s = .next (takeTariffRead b s.asked) := fun b =>
    (exec_office (c := .tariffRead b) rfl (htakes _) rfl (by decide) :)
  have hbin : ∀ b, exec (.binRead b) s = .next (takeBinRead b s.asked) := fun b =>
    (exec_office (c := .binRead b) rfl (htakes _) rfl (by decide) :)
  have hvoucher : ∀ b, exec (.voucherRead b) s = .next (takeVoucherRead b s.asked) := fun b =>
    (exec_office (c := .voucherRead b) rfl (htakes _) rfl (by decide) :)
  have hplan : ∀ a b, exec (.planRead a b) s = .next (takePlanRead a b s.asked) := fun a b =>
    (exec_office (c := .planRead a b) rfl (htakes _) rfl (by decide) :)
  have hslot : ∀ i : SlotId, s.OfficeReports (.voucherRead (.ofNat 8 i.val)) (.voucherRecord i (s.table.slot i) (s.holderByte i)) :=
    fun i => State.officeReports_of_exec ((hvoucher _).trans (by rw [takeVoucherRead, slotOf_ofNat]; rfl))
  have hpart : ∀ (active : Bool) (sel : PartSel), s.OfficeReports (.planRead (yesNoByte active) sel.byte)
      ((if active then s.plans.active else s.plans.staged).partResponse active sel) := fun active sel =>
    State.officeReports_of_exec ((hplan _ _).trans (by
      rw [takePlanRead, activeSelected_yesNoByte, PartSel.ofByte_byte]; rfl))
  refine ⟨fun i => ?_, fun b hb => ?_, fun c => ?_, fun b hb => ?_, ?_, fun b => ?_, fun b hb => ?_, fun i _ => ⟨_, hslot i⟩,
    fun i hfree hmem => ?_, fun i k hconserved hheld => ?_, fun b hb => ?_, ?_, ?_, fun a b hout => ?_⟩
  · exact State.officeReports_of_exec ((hrecog _).trans (by rw [takeRecogRead, entryOf_ofNat]; rfl))
  · exact State.officeRefuses_of_exec ((hrecog _).trans (by rw [takeRecogRead, entryOf_of_ge hb]))
  · exact State.officeReports_of_exec ((htariff _).trans (by rw [takeTariffRead, classOf_ofNat]; rfl))
  · exact State.officeRefuses_of_exec ((htariff _).trans (by rw [takeTariffRead, classOf_of_ge hb]))
  · exact State.officeReports_of_exec (hbin 0)
  · have hchute : BitVec.ofNat 8 (b.val + 1) ≠ 0 := by bv_omega
    exact State.officeReports_of_exec ((hbin _).trans (by rw [takeBinRead, if_neg hchute, binOf_ofNat]; rfl))
  · have hchute : b ≠ 0 := by bv_omega
    exact State.officeRefuses_of_exec ((hbin _).trans (by rw [takeBinRead, if_neg hchute, binOf_out (.inr (by omega))]))
  · have hreport := hslot i
    rwa [hfree, State.holderByte, if_pos hmem] at hreport
  · have hfree : s.table.slot i = .free := by
      obtain ⟨_, _, hlane, _⟩ := hconserved
      have hunused := (hlane i k hheld).1
      cases hst : s.table.slot i <;> simp [hst, VoucherSlot.used] at hunused ⊢
    have hreport := hslot i
    rwa [hfree, State.holderByte_of_held hconserved hheld] at hreport
  · exact State.officeRefuses_of_exec ((hvoucher _).trans (by rw [takeVoucherRead, slotOf_of_ge hb]))
  · exact State.officeReports_of_exec (exec_office (c := .totalsRead) rfl (htakes _) rfl (by decide) :)
  · rintro active p rfl
    exact ⟨hpart active .corner, fun k => hpart active (.lane k), fun b => hpart active (.bin b)⟩
  · refine State.officeRefuses_of_exec ((hplan a b).trans ?_)
    rcases hout with ha | hb
    · rw [takePlanRead, activeSelected, yesNo_of_gt ha]
    · rw [takePlanRead, PartSel.ofByte_eq_none hb]
      cases activeSelected a <;> rfl

/-! ### RECOG-WRITE (R20) -/

/-- Settles O44. -/
theorem recogWrite : Obligations.RecogWrite := by
  intro s index enable key mask cls htakes
  have hexec : exec (.recogWrite index enable key mask cls) s = .next (takeRecogWrite index enable key mask cls s.asked) := by
    rw [exec_office (c := .recogWrite index enable key mask cls) rfl htakes rfl (by decide), takeBody_recogWrite]
  refine ⟨fun i c hindex hcls henable => ?_, fun hout => ?_⟩
  · rw [takeRecogWrite, entryOf_of_toNat hindex, yesNo_of_le henable, classOf_of_toNat hcls] at hexec
    refine ⟨_, hexec, ?_, fun j hj => ?_, rfl, State.onlyAnswers_respond _ rfl, rfl⟩
    · simp [State.respondOffice]
    · have hne : (i : Nat) ≠ j := fun h => hj (Fin.ext h.symm)
      simp [State.respondOffice, hne]
  · refine State.officeRefuses_of_exec (hexec.trans (congrArg Host.Outcome.next ?_))
    rcases hout with hindex | hcls | henable
    · rw [takeRecogWrite, entryOf_of_ge hindex]
    · rw [takeRecogWrite, classOf_of_ge hcls]
      cases entryOf index <;> cases yesNo enable <;> rfl
    · rw [takeRecogWrite, yesNo_of_gt henable]
      cases entryOf index <;> rfl

/-! ### BELT-ENABLE, BELT-STOP and JAM-CLEAR (R6, R13) -/

/-- An office response that answers its request is formed on the link as it was received (R159). -/
theorem LinkPort.answered_office {s t : State} (hflight : (s.port .office).inFlight = none)
    (hport : t.port .office = s.asked.port .office) (r : Response) :
    (s.port .office).Answered ((t.respondOffice r).port .office) r.frame none (s.port .office).notices := by
  have hanswered := LinkPort.answered_enqueue (p := { s.port .office with receiver := .idle }) rfl r.frame
  have hasked : s.asked.port .office = { s.port .office with receiver := .idle } := by simp
  rw [State.respondOffice, State.respond_port_self, hport, hasked]
  rwa [show ({ s.port .office with receiver := .idle } : LinkPort).inFlight = none from hflight] at hanswered

/-- Belt-enable and the jam state written, and running evaluated (R6, R13). -/
def State.beltWritten (s : State) (enable jam : Bool) : State :=
  State.reevaluateRunning { s with belt := { s.belt with enable := enable, jam := jam } }

/-- Settles O43: the three requests write belt-enable or the jam state and go on alike. -/
theorem beltRequests : Obligations.BeltRequests := by
  intro s hup hqueue hflight hsupply
  have htakes : ∀ k, s.Takes .office k := State.takes_of_idle hup hqueue hflight hsupply
  have hjam : exec .jamClear s = .next (takeJamClear s.asked) :=
    (exec_office (c := .jamClear) rfl (htakes _) rfl (by decide) :)
  refine ⟨fun heye => State.officeRefuses_of_exec (hjam.trans (congrArg Host.Outcome.next (if_pos heye))),
    fun c enable jam hcase => ?_⟩
  have hexec : exec c s = .next (((s.asked.beltWritten enable jam).respondOffice
      (.beltState (s.asked.beltWritten enable jam).belt)).passIfReleased s.asked) := by
    rcases hcase with ⟨rfl, rfl, rfl⟩ | ⟨rfl, rfl, rfl⟩ | ⟨rfl, rfl, rfl, heye⟩
    · exact (exec_office (c := .beltEnable) rfl (htakes _) rfl (by decide) :)
    · exact (exec_office (c := .beltStop) rfl (htakes _) rfl (by decide) :)
    · exact hjam.trans (congrArg Host.Outcome.next (if_neg (by simp [heye])))
  have hother : ∀ l, l ≠ .office → s.asked.port l = s.port l := fun l hl => s.setReceiver_port_ne _ hl
  have hoffice : (s.asked.beltWritten enable jam).port .office = s.asked.port .office :=
    State.reevaluateRunning_port_office _
  rw [State.passIfReleased_eq] at hexec
  refine ⟨_, hexec, ?_, ?_, fun k => ?_, ?_, LinkPort.answered_office hflight hoffice _, ?_⟩
  · simp only [State.respondOffice, State.respond_belt, State.beltWritten, State.reevaluateRunning_belt]
    simp [State.runConditions, State.inHoldUp, hsupply]
  · exact State.reevaluateRunning_held { s.asked with belt := { s.asked.belt with enable := enable, jam := jam } }
  · rw [State.respondOffice, State.respond_port_ne _ _ (by simp), State.respond_merge, ← hother (.lane k) (by simp)]
    exact State.reevaluateRunning_noticed _ k
  · rw [State.respondOffice, State.respond_port_ne _ _ (by simp), ← hother .checkout (by simp)]
    exact State.reevaluateRunning_port_checkout _
  · rw [State.beltWritten, State.reevaluateRunning_frame]
    rfl

/-! ### BIN-RELEASE, BIN-RETURN and REJECT-CLEAR (R107, R109, R113) -/

/-- A bin written and its request answered, followed by the pass. -/
theorem State.binWritten {s : State} {c : Instr} {b : BinId} {r : Bin} {resp : Response}
    (h : exec c s = .next (((s.asked.setBin b r).respondOffice resp).mergePass)) :
    ∃ u : State, exec c s = .next u.mergePass ∧ u.bin b = r ∧ (∀ a, a ≠ b → u.bin a = s.bin a) ∧ s.OnlyAnswers u .office resp ∧
      u = { s with ports := u.ports, recog := s.recog.closed, bins := u.bins } :=
  ⟨_, h, s.asked.bin_setBin_self b r, fun _ ha => s.asked.bin_setBin_ne ha r, State.onlyAnswers_respond _ rfl, rfl⟩

/-- The count and at-limit after a clear, and held formed again (R113). -/
def State.rejectCleared (s : State) : State := (State.evalAtLimit { s with reject := { s.reject with count := 0 } }).reformHeld

/-- Settles O46. -/
theorem binRequests : Obligations.BinRequests := by
  intro s hup hqueue hflight hsupply
  have htakes : ∀ k, s.Takes .office k := State.takes_of_idle hup hqueue hflight hsupply
  have hrelease : ∀ x, exec (.binRelease x) s = .next (takeBinRelease x s.asked) := fun x =>
    (exec_office (c := .binRelease x) rfl (htakes _) rfl (by decide) :)
  have hreturn : ∀ x, exec (.binReturn x) s = .next (takeBinReturn x s.asked) := fun x =>
    (exec_office (c := .binReturn x) rfl (htakes _) rfl (by decide) :)
  have hbin : ∀ b, s.asked.bin b = s.bin b := fun _ => rfl
  refine ⟨fun x hx => ⟨?_, ?_⟩, fun b => ⟨fun hst => ?_, fun hst => ?_, fun c r resp hcase => ?_⟩, fun hlimit => ?_⟩
  · exact State.officeRefuses_of_exec ((hrelease x).trans (by rw [takeBinRelease, binOf_out hx]))
  · exact State.officeRefuses_of_exec ((hreturn x).trans (by rw [takeBinReturn, binOf_out hx]))
  · have hstays : (s.bin b).releasedState = none := by rcases hst with hst | ⟨_, hst⟩ <;> simp [Bin.releasedState, hst]
    exact State.officeRefuses_of_exec ((hrelease _).trans (by simp only [takeBinRelease, binOf_ofNat, hbin, hstays]))
  · exact State.officeRefuses_of_exec ((hreturn _).trans (by simp only [takeBinReturn, binOf_ofNat, hbin, if_neg hst]))
  · rcases hcase with ⟨rfl, rfl, hst, rfl⟩ | ⟨rfl, rfl, hst, hpos, rfl⟩ | ⟨rfl, rfl, hst, rfl⟩
    · have hgoes : (s.bin b).releasedState = some .released := by
        rcases hst with hst | ⟨hst, hzero⟩
        · simp [Bin.releasedState, hst]
        · simp [Bin.releasedState, hst, hzero]
      exact State.binWritten ((hrelease _).trans (by simp only [takeBinRelease, binOf_ofNat, hbin, hgoes]))
    · have hgoes : (s.bin b).releasedState = some (.draining .released) := by
        simp [Bin.releasedState, hst, Nat.ne_of_gt hpos]
      exact State.binWritten ((hrelease _).trans (by simp only [takeBinRelease, binOf_ofNat, hbin, hgoes]))
    · exact State.binWritten ((hreturn _).trans (by simp only [takeBinReturn, binOf_ofNat, hbin, if_pos hst]))
  · have hexec : exec .rejectClear s = .next ((s.asked.rejectCleared.respondOffice
        s.asked.rejectCleared.rejectResponse).passIfReleased s.asked) :=
      (exec_office (c := .rejectClear) rfl (htakes _) rfl (by decide) :)
    have hother : ∀ l, l ≠ .office → s.asked.port l = s.port l := fun l hl => s.setReceiver_port_ne _ hl
    have hoffice : s.asked.rejectCleared.port .office = s.asked.port .office := State.reformHeld_port_office _
    have hresponse : s.asked.rejectCleared.rejectResponse = .rejectState s.asked.rejectCleared.reject s.corner.rejectLimit := by
      simp [State.rejectResponse, State.rejectCleared]
    rw [State.passIfReleased_eq, hresponse] at hexec
    refine ⟨_, hexec, ?_, ?_, fun k => ?_, ?_, LinkPort.answered_office hflight hoffice _, ?_⟩
    · have hbelow : decide (s.corner.rejectLimit ≤ 0) = false := decide_eq_false (Nat.not_le.mpr hlimit)
      simp only [State.respondOffice, State.respond_reject, State.rejectCleared, State.reformHeld_reject]
      exact congrArg (RejectChute.mk 0) hbelow
    · simp only [State.respondOffice, State.respond_merge, State.rejectCleared, State.reformHeld_merge]
      exact congrArg (MergeArbiter.mk _ _) (State.reformHeld_heldCauses _).symm
    · rw [State.respondOffice, State.respond_port_ne _ _ (by simp), State.respond_merge, ← hother (.lane k) (by simp)]
      exact State.reformHeld_noticed _ k
    · rw [State.respondOffice, State.respond_port_ne _ _ (by simp), ← hother .checkout (by simp)]
      exact State.reformHeld_port_checkout _
    · rw [State.rejectCleared, State.reformHeld_frame]
      rfl

end Sys2Proof.Machine
end

section
/-! Plans (Chapter 8): parts and tariff records by their bytes, PLAN-STAGE, and the seven checks of PLAN-APPLY. -/

namespace Sys2Proof.Machine

/-! ### A number in range, as a field of a body (R166) -/

theorem toNat_ofNat_of_lt {w n : Nat} (h : n < 2 ^ w) : (BitVec.ofNat w n).toNat = n := by
  rw [BitVec.toNat_ofNat, Nat.mod_eq_of_lt h]

theorem yesNo_yesNoByte (b : Bool) : yesNo (yesNoByte b) = some b := by cases b <;> rfl

theorem yesNo_eq_some_iff {b : Byte} {x : Bool} : yesNo b = some x ↔ b = yesNoByte x := by
  constructor
  · intro h
    simp only [yesNo] at h
    split_ifs at h <;> cases h <;> assumption
  · rintro rfl
    exact yesNo_yesNoByte x

/-! ### Parts as they are sent (R136, R171) -/

theorem GlobalPart.bounds {g : GlobalPart} (h : g.inRange = true) :
    g.gap < 2 ^ 16 ∧ g.tolerance < 2 ^ 8 ∧ g.holdMark < 2 ^ 8 ∧ g.releaseMark < 2 ^ 8 ∧ g.claimWaitLimit < 2 ^ 16 ∧
      g.settleLimit < 2 ^ 24 ∧ g.jamLength < 2 ^ 16 ∧ g.rejectLimit < 2 ^ 8 := by
  simp only [GlobalPart.inRange, Bool.and_eq_true, decide_eq_true_eq] at h
  omega

theorem LanePart.bounds {l : LanePart} (h : l.inRange = true) : l.offset < 2 ^ 16 ∧ l.dropLead < 2 ^ 8 := by
  simp only [LanePart.inRange, Bool.and_eq_true, decide_eq_true_eq] at h
  omega

theorem BinPart.bounds {b : BinPart} (h : b.inRange = true) :
    b.material < 2 ^ 8 ∧ b.capacity < 2 ^ 16 ∧ b.ratio < 2 ^ 8 ∧ b.warningMark < 2 ^ 16 := by
  simp only [BinPart.inRange, Bool.and_eq_true, decide_eq_true_eq] at h
  omega

/-- A global part is read from exactly the fields that spell it, in range. -/
theorem globalPartOf_eq_some_iff {fields : RawPart} {g : GlobalPart} :
    globalPartOf fields = some g ↔ g.inRange = true ∧ fields = g.raw := by
  constructor
  · intro h
    cases fields with
    | globalPart gap tolerance hold release claimWait settle jam reject =>
      simp only [globalPartOf, Option.ite_none_right_eq_some] at h
      obtain ⟨hrange, hg⟩ := h
      obtain rfl := Option.some.inj hg
      exact ⟨hrange, by simp [GlobalPart.raw]⟩
    | lanePart => cases h
    | binPart => cases h
  · rintro ⟨hrange, rfl⟩
    obtain ⟨hgap, htolerance, hhold, hrelease, hwait, hsettle, hjam, hreject⟩ := GlobalPart.bounds hrange
    simp only [globalPartOf, GlobalPart.raw, toNat_ofNat_of_lt hgap, toNat_ofNat_of_lt htolerance, toNat_ofNat_of_lt hhold,
      toNat_ofNat_of_lt hrelease, toNat_ofNat_of_lt hwait, toNat_ofNat_of_lt hsettle, toNat_ofNat_of_lt hjam,
      toNat_ofNat_of_lt hreject]
    exact if_pos hrange

/-- A lane part is read from exactly the fields that spell it, in range. -/
theorem lanePartOf_eq_some_iff {fields : RawPart} {l : LanePart} :
    lanePartOf fields = some l ↔ l.inRange = true ∧ fields = l.raw := by
  constructor
  · intro h
    cases fields with
    | lanePart mode offset dropLead materials =>
      cases hmode : yesNo mode with
      | none => simp [lanePartOf, hmode] at h
      | some opened =>
        simp only [lanePartOf, hmode, Option.ite_none_right_eq_some] at h
        obtain ⟨hrange, hl⟩ := h
        obtain rfl := Option.some.inj hl
        obtain rfl := yesNo_eq_some_iff.mp hmode
        exact ⟨hrange, by cases opened <;> simp [LanePart.raw, yesNoByte]⟩
    | globalPart => cases h
    | binPart => cases h
  · rintro ⟨hrange, rfl⟩
    obtain ⟨hoffset, hlead⟩ := LanePart.bounds hrange
    have hmode : yesNo (if l.mode = .opened then 1 else 0) = some (l.mode == .opened) := by cases l.mode <;> rfl
    have hread : (if (l.mode == .opened) = true then LaneMode.opened else .parked) = l.mode := by cases l.mode <;> rfl
    simp only [lanePartOf, LanePart.raw, hmode, hread, toNat_ofNat_of_lt hoffset, toNat_ofNat_of_lt hlead]
    exact if_pos hrange

/-- A bin part is read from exactly the fields that spell it, in range. -/
theorem binPartOf_eq_some_iff {fields : RawPart} {b : BinPart} :
    binPartOf fields = some b ↔ b.inRange = true ∧ fields = b.raw := by
  constructor
  · intro h
    cases fields with
    | binPart service material capacity ratio warningMark =>
      cases hservice : yesNo service with
      | none => simp [binPartOf, hservice] at h
      | some serving =>
        simp only [binPartOf, hservice, Option.ite_none_right_eq_some] at h
        obtain ⟨hrange, hb⟩ := h
        obtain rfl := Option.some.inj hb
        obtain rfl := yesNo_eq_some_iff.mp hservice
        exact ⟨hrange, by cases serving <;> simp [BinPart.raw, yesNoByte]⟩
    | globalPart => cases h
    | lanePart => cases h
  · rintro ⟨hrange, rfl⟩
    obtain ⟨hmaterial, hcapacity, hratio, hmark⟩ := BinPart.bounds hrange
    have hservice : yesNo (if b.service = .serving then 1 else 0) = some (b.service == .serving) := by cases b.service <;> rfl
    have hread : (if (b.service == .serving) = true then Service.serving else .out) = b.service := by cases b.service <;> rfl
    simp only [binPartOf, BinPart.raw, hservice, hread, toNat_ofNat_of_lt hmaterial, toNat_ofNat_of_lt hcapacity,
      toNat_ofNat_of_lt hratio, toNat_ofNat_of_lt hmark]
    exact if_pos hrange

/-! ### PLAN-STAGE (R136) -/

theorem exec_planStage {s : State} (h : s.Takes .office .planStage) (selector : Byte) (fields : RawPart) :
    exec (.planStage selector fields) s = .next (takePlanStage selector fields s.asked) := by
  refine congrArg Host.Outcome.next (h.requestCompletes_eq ?_ _)
  cases fields <;> rfl

/-- Settles O48: a part that its fields spell in range replaces the part that the selector names, and nothing else is taken. -/
theorem planStage : Obligations.PlanStage := by
  intro s htakes
  have hexec := exec_planStage htakes
  refine ⟨fun g hg => ?_, fun k p hp => ?_, fun b p hp => ?_, fun selector fields hcorner hlane hbin => ?_⟩
  · have htaken := hexec PartSel.corner.byte g.raw
    simp only [takePlanStage, PartSel.ofByte_byte, globalPartOf_eq_some_iff.mpr ⟨hg, rfl⟩] at htaken
    exact ⟨_, htaken, State.onlyAnswers_respond _ rfl, rfl⟩
  · have htaken := hexec (PartSel.lane k).byte p.raw
    simp only [takePlanStage, PartSel.ofByte_byte, lanePartOf_eq_some_iff.mpr ⟨hp, rfl⟩] at htaken
    refine ⟨_, htaken, ?_, fun j hj => ?_, State.onlyAnswers_respond _ rfl, rfl⟩
    · exact Vector.getElem_set_self _
    · have hne : (k : Nat) ≠ j := fun h => hj (Fin.ext h.symm)
      simp [State.respondOffice, State.setStaged, hne]
  · have htaken := hexec (PartSel.bin b).byte p.raw
    simp only [takePlanStage, PartSel.ofByte_byte, binPartOf_eq_some_iff.mpr ⟨hp, rfl⟩] at htaken
    refine ⟨_, htaken, ?_, fun j hj => ?_, State.onlyAnswers_respond _ rfl, rfl⟩
    · exact Vector.getElem_set_self _
    · have hne : (b : Nat) ≠ j := fun h => hj (Fin.ext h.symm)
      simp [State.respondOffice, State.setStaged, hne]
  · refine State.officeRefuses_of_exec ((hexec selector fields).trans (congrArg Host.Outcome.next ?_))
    unfold takePlanStage
    split
    · rfl
    next hsel =>
      rw [PartSel.ofByte_eq_some_iff] at hsel
      split
      next g hg => exact absurd ⟨hsel, g, globalPartOf_eq_some_iff.mp hg⟩ hcorner
      next => rfl
    next k hsel =>
      rw [PartSel.ofByte_eq_some_iff] at hsel
      split
      next p hp => exact absurd ⟨k, hsel, p, lanePartOf_eq_some_iff.mp hp⟩ hlane
      next => rfl
    next b hsel =>
      rw [PartSel.ofByte_eq_some_iff] at hsel
      split
      next p hp => exact absurd ⟨b, hsel, p, binPartOf_eq_some_iff.mp hp⟩ hbin
      next => rfl

/-! ### The seven checks (R138, Table 8-4) -/

/-- The number of the first check that fails. -/
theorem firstFailing_eq_some {cs : List Bool} {n : Nat} (hfails : cs[n]? = some false)
    (hbefore : ∀ m < n, cs[m]? = some true) : firstFailing cs = some (n + 1) := by
  induction cs generalizing n with
  | nil => simp at hfails
  | cons c cs ih =>
    cases n with
    | zero =>
      obtain rfl : c = false := by simpa using hfails
      rfl
    | succ n =>
      obtain rfl : c = true := by simpa using hbefore 0 (Nat.succ_pos n)
      rw [firstFailing, ih (by simpa using hfails) fun m hm => by simpa using hbefore (m + 1) (Nat.succ_lt_succ hm)]
      rfl

theorem Vector.all_toList_iff {α : Type} {n : Nat} (v : Vector α n) (p : α → Bool) :
    v.toList.all p = true ↔ ∀ i : Fin n, p v[i] = true := by
  rw [List.all_eq_true]
  constructor
  · exact fun h i => h _ (by simp)
  · intro h x hx
    obtain ⟨i, hi, rfl⟩ := List.mem_iff_getElem.mp hx
    simpa using h ⟨i, by simpa using hi⟩

theorem Vector.any_toList_iff {α : Type} {n : Nat} (v : Vector α n) (p : α → Bool) :
    v.toList.any p = true ↔ ∃ i : Fin n, p v[i] = true := by
  have hall := Vector.all_toList_iff v fun x => !p x
  simp only [List.all_eq_not_any_not, Bool.not_not, Bool.not_eq_true'] at hall
  rw [← not_iff_not, Bool.not_eq_true, hall, not_exists]
  simp only [Bool.not_eq_true]

theorem mem_binIds (b : BinId) : b ∈ binIds := by revert b; decide

theorem mem_materialsOf {m : Byte} {n : Nat} : n ∈ materialsOf m ↔ 1 ≤ n ∧ n ≤ 7 ∧ m.getLsbD n = true := by
  have hlist : n ∈ [1, 2, 3, 4, 5, 6, 7] ↔ 1 ≤ n ∧ n ≤ 7 := by simp; omega
  rw [materialsOf, List.mem_filter, hlist, and_assoc]

/-- Check 4 (Table 8-4). -/
theorem Plan.lanesServed_iff (p : Plan) :
    p.lanesServed = true ↔ ∀ k : LaneId, p.lanes[k].mode = .opened → ∀ m, 1 ≤ m → m ≤ 7 →
      p.lanes[k].materials.getLsbD m = true → ∃ b : BinId, p.bins[b].service = .serving ∧ p.bins[b].material = m := by
  have hserves : ∀ m, p.servesMaterial m = true ↔ ∃ b : BinId, p.bins[b].service = .serving ∧ p.bins[b].material = m := by
    intro m
    simp only [Plan.servesMaterial, Vector.any_toList_iff, Bool.and_eq_true, beq_iff_eq]
  rw [Plan.lanesServed, Vector.all_toList_iff]
  simp only [Bool.or_eq_true, Bool.not_eq_true', List.all_eq_true, mem_materialsOf, hserves, beq_eq_false_iff_ne]
  simp only [← imp_iff_not_or, and_imp]

open Classical in
/-- The seven checks are those of Table 8-4, in its order. -/
theorem State.planChecks_eq (s : State) :
    s.planChecks = [1, 2, 3, 4, 5, 6, 7].map fun n => decide (s.PlanCheck n) := by
  have hrange : s.plans.staged.inRange = decide (s.PlanCheck 1) := by
    rw [Bool.eq_iff_iff, decide_eq_true_iff]
    simp only [Plan.inRange, Bool.and_eq_true, Vector.all_toList_iff, and_assoc]
    exact Iff.rfl
  have hserved : s.plans.staged.lanesServed = decide (s.PlanCheck 4) := by
    rw [Bool.eq_iff_iff, decide_eq_true_iff]
    exact Plan.lanesServed_iff _
  have hempty : s.materialChangesEmpty = decide (s.PlanCheck 5) := by
    rw [Bool.eq_iff_iff, decide_eq_true_iff]
    simp [State.materialChangesEmpty, State.PlanCheck, mem_binIds, or_iff_not_imp_left]
  have hcapacity : s.capacitiesHold = decide (s.PlanCheck 6) := by
    rw [Bool.eq_iff_iff, decide_eq_true_iff]
    simp only [State.capacitiesHold, List.all_eq_true, Bool.and_eq_true, decide_eq_true_iff]
    exact ⟨fun h b => h b (mem_binIds b), fun h b _ => h b⟩
  have hspacing : s.spacingKept = decide (s.PlanCheck 7) := by
    rw [Bool.eq_iff_iff, decide_eq_true_iff]
    simp [State.spacingKept, State.PlanCheck, or_iff_not_imp_left]
  have htolerance : decide (2 * s.plans.staged.corner.tolerance < s.plans.staged.corner.gap) = decide (s.PlanCheck 2) :=
    decide_eq_decide.mpr Iff.rfl
  have hmarks : decide (s.plans.staged.corner.releaseMark < s.plans.staged.corner.holdMark) = decide (s.PlanCheck 3) :=
    decide_eq_decide.mpr Iff.rfl
  simp only [State.planChecks, hrange, htolerance, hmarks, hserved, hempty, hcapacity, hspacing]
  rfl

theorem exec_planApply {s : State} (h : s.Takes .office .planApply) : exec .planApply s = .next (takePlanApply s.asked) :=
  (exec_office (c := .planApply) rfl h rfl (by decide) :)

theorem takePlanApply_refused {s : State} {n : Nat} (h : firstFailing s.planChecks = some n) :
    takePlanApply s = s.respond .office (.refuse ReqKind.planApply.code .planInvalid n) := by
  unfold takePlanApply
  generalize firstFailing s.planChecks = failing at h
  subst h
  rfl

open Classical in
/-- Settles O49: the checks before the first that fails pass (`firstFailing_eq_some`). -/
theorem planApplyRefused : Obligations.PlanApplyRefused := by
  intro s n htakes hpos hle hbefore hfails
  have hget : ∀ m, m < 7 → s.planChecks[m]? = some (decide (s.PlanCheck (m + 1))) := by
    intro m hm
    rw [State.planChecks_eq]
    interval_cases m <;> rfl
  have hfirst : firstFailing s.planChecks = some n := by
    obtain ⟨m, rfl⟩ := Nat.exists_eq_add_of_le' hpos
    refine firstFailing_eq_some ?_ fun j hj => ?_
    · rw [hget m (by omega), decide_eq_false hfails]
    · rw [hget j (by omega), decide_eq_true (hbefore (j + 1) (by omega) (by omega))]
  have hexec : exec .planApply s = .next (s.asked.respond .office (.refuse ReqKind.planApply.code .planInvalid n)) := 
    (exec_planApply htakes).trans (congrArg Host.Outcome.next (takePlanApply_refused hfirst))
  exact ⟨_, hexec, State.onlyAnswers_respond _ rfl, rfl⟩

/-! ### Records and parts by their bytes (Table 11-2, R171) -/

theorem beNat_be_of_lt {w n : Nat} (h : n < 256 ^ w) : beNat (be w n) = n := by
  rw [beNat_be, Nat.mod_eq_of_lt h]

/-- The ten bytes of a class are read field by field. -/
theorem TariffClass.decode_encode {c : TariffClass} (h : c.inRange = true) : TariffClass.decode c.encode = some c := by
  have hbounds := h
  simp only [TariffClass.inRange, Bool.and_eq_true, decide_eq_true_eq] at hbounds
  have hdecode : TariffClass.decode c.encode =
      (yesNo (yesNoByte c.shapeRequired)).bind fun shape =>
        let c' : TariffClass :=
          { deposit := beNat (be 2 c.deposit), material := (BitVec.ofNat 8 (c.material / 256 ^ 0)).toNat
            volume := beNat (be 2 c.volume)
            weightMin := beNat (be 2 c.weightMin), weightMax := beNat (be 2 c.weightMax), shapeRequired := shape }
        if c'.inRange then some c' else none := by
    unfold TariffClass.encode
    cases c.shapeRequired <;> rfl
  rw [hdecode, yesNo_yesNoByte, beNat_be_of_lt (by omega), beNat_be_of_lt (by omega), beNat_be_of_lt (by omega),
    beNat_be_of_lt (by omega), toNat_ofNat_of_lt (by omega), pow_zero, Nat.div_one]
  exact if_pos h

theorem msbFirst_one (n : Nat) : msbFirst 1 n = [BitVec.ofNat 8 n] := by rw [← be_eq_msbFirst, be_one]

theorem GlobalPart.encode_eq {g : GlobalPart} (h : g.inRange = true) : g.encode = rawPartBytes g.raw := by
  obtain ⟨hgap, _, _, _, hwait, hsettle, hjam, _⟩ := GlobalPart.bounds h
  simp only [GlobalPart.encode, GlobalPart.raw, rawPartBytes, toNat_ofNat_of_lt hgap, toNat_ofNat_of_lt hwait,
    toNat_ofNat_of_lt hsettle, toNat_ofNat_of_lt hjam, be_eq_msbFirst]
  simp [msbFirst]

theorem LanePart.encode_eq {l : LanePart} (h : l.inRange = true) : l.encode = rawPartBytes l.raw := by
  obtain ⟨hoffset, _⟩ := LanePart.bounds h
  simp only [LanePart.encode, LanePart.raw, rawPartBytes, toNat_ofNat_of_lt hoffset, be_eq_msbFirst, msbFirst_one]
  cases l.mode <;> rfl

theorem BinPart.encode_eq {b : BinPart} (h : b.inRange = true) : b.encode = rawPartBytes b.raw := by
  obtain ⟨_, hcapacity, _, hmark⟩ := BinPart.bounds h
  simp only [BinPart.encode, BinPart.raw, rawPartBytes, toNat_ofNat_of_lt hcapacity, toNat_ofNat_of_lt hmark, be_eq_msbFirst,
    msbFirst_one]
  cases b.service <;> rfl

/-- Settles O52: a part is encoded as the fields that a master sends (R171), and these are read back. -/
theorem recordsAndPartsRoundTrip : Obligations.RecordsAndPartsRoundTrip := by
  refine ⟨fun c hc => ⟨by simp [TariffClass.encode], TariffClass.decode_encode hc⟩, fun g hg sel => ⟨by simp [GlobalPart.encode], ?_⟩,
    fun l hl sel => ⟨by simp [LanePart.encode], ?_⟩, fun b hb sel => ⟨by simp [BinPart.encode], ?_⟩⟩
  · rw [GlobalPart.encode_eq hg, rawPart_body]
    exact globalPartOf_eq_some_iff.mpr ⟨hg, rfl⟩
  · rw [LanePart.encode_eq hl, rawPart_body]
    exact lanePartOf_eq_some_iff.mpr ⟨hl, rfl⟩
  · rw [BinPart.encode_eq hb, rawPart_body]
    exact binPartOf_eq_some_iff.mpr ⟨hb, rfl⟩

end Sys2Proof.Machine
end

section
/-! The layouts of the response frames (Chapter 11): the envelope (R167), the code tables (Table 11-1, R168), the flag bytes and
the bodies (R168 to R171). -/

namespace Sys2Proof.Machine

/-! ### Code tables -/

theorem mem_officeCodes_iff (code : Byte) :
    code ∈ (kindsOf .office).map ReqKind.code ↔ 0x20 ≤ code.toNat ∧ code.toNat ≤ 0x33 := by
  simp only [kindsOf, List.map_cons, List.map_nil, ReqKind.code, List.mem_cons, List.not_mem_nil, or_false,
    ← BitVec.toNat_inj]
  simp
  omega

/-! ### Flag bytes (R166, R169, R171) -/

/-- A flag byte has the bits it was made of. -/
theorem hasBits_flagByte {bits : List Bool} (h : bits.length ≤ 8) : HasBits (flagByte bits) bits := by
  intro n
  rcases Nat.lt_or_ge n 8 with hn | hn
  · exact flagByte_getLsbD bits hn
  · rw [BitVec.getLsbD_of_ge _ _ hn, List.getD_eq_default _ _ (h.trans hn)]

/-- The bin state byte: the state in bits 0 and 1, WARN in bit 2, the drain target in bit 3. -/
theorem Bin.hasBits_stateByte (b : Bin) :
    HasBits b.stateByte
      [b.state == .serving || b.state == .released,
       b.state == .draining .out || b.state == .draining .released || b.state == .released, b.warn,
       b.state == .draining .released] := by
  unfold Bin.stateByte
  split
  all_goals
    next h =>
      rw [h]
      exact hasBits_flagByte (by simp)

/-! ### Bodies -/

@[simp] theorem msbFirst_length (w n : Nat) : (msbFirst w n).length = w := by simp [msbFirst]

/-- The lane state byte of LANE-STATE (R169). -/
theorem LaneState.flagByte_bits (st : LaneState) :
    flagByte st.bits = match st with | .ready => 0 | .parked => 1 | .active => 2 | .settling => 3 := by
  cases st <;> rfl

/-- The last-close bytes of LANE-STATE (R169). -/
theorem lastCloseBytes_eq (c : Option CloseRecord) :
    lastCloseBytes c = match c with
      | none => List.replicate 10 0
      | some c =>
        (match c.voucher with
          | some (i, serial) => [1, BitVec.ofNat 8 i.val] ++ msbFirst 2 serial.toNat
          | none => [2, 0, 0, 0]) ++
        msbFirst 2 c.amount ++ msbFirst 2 c.count ++ [BitVec.ofNat 8 c.unconfirmed, voucherFlags c.powerClosed false] := by
  cases c with
  | none => rfl
  | some c =>
    obtain ⟨voucher, amount, count, unconfirmed, powerClosed⟩ := c
    cases voucher with
    | none =>
      simp [lastCloseBytes, be_eq_msbFirst, msbFirst_one]
      rfl
    | some v => simp [lastCloseBytes, be_eq_msbFirst, msbFirst_one]

/-- The slot byte of LANE-STATE. -/
theorem slotByte_eq (o : Option SlotId) :
    be 1 ((o.map Fin.val).getD 0) = [match o with | some i => BitVec.ofNat 8 i.val | none => 0] := by
  cases o <;> rw [be_one] <;> rfl

theorem lastCloseBytes_length (c : Option CloseRecord) : (lastCloseBytes c).length = 10 := by
  cases c with
  | none => rfl
  | some c =>
    obtain ⟨voucher, amount, count, unconfirmed, powerClosed⟩ := c
    cases voucher <;> simp [lastCloseBytes]

/-- LANE-STATE (R169). -/
theorem LaneView.body_eq (v : LaneView) :
    v.body = [flagByte v.state.bits, flagByte [v.held, v.parkPending, v.waiting, v.slot.isSome, v.lastClose.isSome],
        match v.slot with | some i => BitVec.ofNat 8 i.val | none => 0] ++ msbFirst 2 v.firmCredit ++ msbFirst 2 v.firmCount ++
      msbFirst 2 v.provisionalCredit ++ msbFirst 2 v.provisionalCount ++ lastCloseBytes v.lastClose := by
  rw [LaneView.body, slotByte_eq]
  simp [be_eq_msbFirst]

theorem yesNoByte_eq (b : Bool) : yesNoByte b = yesOrNo b := rfl

/-- The voucher fields of VOUCHER-RECORD (R129, R171). -/
theorem voucherRecordBytes_eq (i : SlotId) (v : Voucher) :
    voucherRecordBytes i v = msbFirst 2 v.serial.toNat ++ msbFirst 2 v.amount ++ msbFirst 2 v.count ++
      [BitVec.ofNat 8 v.unconfirmed, BitVec.ofNat 8 v.lane.val, voucherFlags v.powerClosed v.recovered] ++
      voucherCode i v.serial := by
  simp [voucherRecordBytes, be_eq_msbFirst, msbFirst_one]

/-- VOUCHER-RECORD of a slot with a voucher (R129). -/
theorem voucherRecord_sentAs {i : SlotId} {state : VoucherSlot} {v : Voucher} {code : Byte} {claim : List Byte} (holder : Byte)
    (h : state = .issued v ∧ code = 1 ∧ claim = [0, 0, 0] ∨
      ∃ c e, state = .claimed v c e ∧ code = 2 ∧ claim = [BitVec.ofNat 8 c] ++ msbFirst 2 (max 1 ((120000 - e) / 10))) :
    (Response.voucherRecord i state holder).SentAs 0x91 23
      ([BitVec.ofNat 8 i.val, code, 0] ++ msbFirst 2 v.serial.toNat ++ msbFirst 2 v.amount ++ msbFirst 2 v.count ++
        [BitVec.ofNat 8 v.unconfirmed, BitVec.ofNat 8 v.lane.val, voucherFlags v.powerClosed v.recovered] ++
        voucherCode i v.serial ++ claim) := by
  rcases h with ⟨rfl, rfl, rfl⟩ | ⟨c, e, rfl, rfl, rfl⟩
  · refine ⟨rfl, ?_, by simp⟩
    simp [Response.body, voucherRecordBytes_eq, be_eq_msbFirst, msbFirst_one]
    rfl
  · refine ⟨rfl, ?_, by simp⟩
    simp [Response.body, voucherRecordBytes_eq, be_eq_msbFirst, msbFirst_one, lapseRemaining, Config.lapseLimit,
      Config.timebaseStep]

/-- Settles O51: the envelope, the code tables, the flag bytes, and the bodies one after another. -/
theorem frameEnvelope : Obligations.FrameEnvelope := by
  refine ⟨fun r => ⟨checkByte (.ofNat 8 (r.body.length + 1)) r.code r.body, rfl, checkByte_sum _ _ _⟩, rfl, fun _ => rfl, rfl,
    mem_officeCodes_iff, fun k n => ?_, rfl, fun kind reason detail => ?_, fun power recovered => ?_, fun b => ?_, fun s => ?_,
    fun m => ?_, fun l => ?_, Bin.hasBits_stateByte, fun k i => ?_, fun chute due cls deposit firm prov => ?_,
    fun i serial amount count unconfirmed flags => ?_, fun count unconfirmed flags => ?_, fun v => ?_, fun c i v => ?_,
    fun c i serial amount => ?_, fun c i serial => ?_, fun b => ?_, fun v => ?_, fun s => rfl, fun i e => ?_,
    fun i w r o n => ?_, fun c x => ?_, fun b x => ?_, fun b x => ?_, fun r limit => ?_, fun i holder => ?_,
    fun i state v holder code claim h => voucherRecord_sentAs holder h, fun i serial amount => ?_,
    fun t outstanding freeSlots closed => ?_, fun active g => ?_, fun active k l => ?_, fun active b p => ?_, fun s => ?_⟩
  case refine_1 =>
    cases k
    case tariffData =>
      rw [ReqKind.lengthOk, Bool.and_eq_true, decide_eq_true_eq, decide_eq_true_eq]
      rfl
    all_goals simp [ReqKind.lengthOk, or_assoc]
  case refine_3 | refine_4 | refine_5 | refine_6 => exact hasBits_flagByte (by simp)
  case refine_7 =>
    rw [Lane.appliedByte, LaneState.bits_eq]
    exact hasBits_flagByte (by simp)
  case refine_12 =>
    refine ⟨_, hasBits_flagByte (by simp), rfl, ?_, ?_⟩
    · rw [Response.body, LaneView.body_eq, LaneState.flagByte_bits, lastCloseBytes_eq] <;> rfl
    · have hlength : v.body.length = 21 := by
        simp only [LaneView.body_eq, List.length_append, lastCloseBytes_length, msbFirst_length, List.length_cons, List.length_nil]
      rw [LaneView.body_eq, LaneState.flagByte_bits, lastCloseBytes_eq] at hlength
      exact hlength
  case refine_17 =>
    refine ⟨rfl, ?_, by simp; omega⟩
    simp [Response.body, be_eq_msbFirst, msbFirst_one]
    cases v.cause <;> rfl
  case refine_18 => exact ⟨rfl, by simp [Response.body, keyBytes, be_eq_msbFirst, msbFirst_one, yesNoByte_eq], by simp⟩
  case refine_20 => exact ⟨rfl, by simp [Response.body, TariffClass.encode, be_eq_msbFirst, msbFirst_one, yesNoByte_eq], by simp⟩
  case refine_21 | refine_22 => exact ⟨rfl, by simp [Response.body, chuteOf, be_eq_msbFirst, msbFirst_one], by simp⟩
  case refine_23 => exact ⟨rfl, by simp [Response.body, be_eq_msbFirst, msbFirst_one, yesNoByte_eq], by simp⟩
  case refine_24 =>
    refine ⟨rfl, ?_, by simp⟩
    rw [Response.body]
    simp [be_eq_msbFirst, msbFirst_one]
    rfl
  case refine_26 => exact ⟨rfl, by simp [Response.body, be_eq_msbFirst, msbFirst_one, yesNoByte_eq], by simp⟩
  case refine_27 =>
    exact ⟨rfl, by simp [Response.body, GlobalPart.encode, PartSel.byte, be_eq_msbFirst, msbFirst_one, yesNoByte_eq], by simp⟩
  case refine_28 =>
    refine ⟨rfl, ?_, by simp⟩
    obtain ⟨mode, offset, dropLead, materials⟩ := l
    cases mode <;> simp [Response.body, LanePart.encode, PartSel.byte, be_eq_msbFirst, msbFirst_one] <;> exact ⟨rfl, rfl⟩
  case refine_29 =>
    refine ⟨rfl, ?_, by simp⟩
    obtain ⟨service, material, capacity, ratio, warningMark⟩ := p
    cases service <;> simp [Response.body, BinPart.encode, PartSel.byte, be_eq_msbFirst, msbFirst_one] <;> exact ⟨rfl, rfl⟩
  case refine_30 => exact ⟨rfl, rfl, rfl⟩
  all_goals exact ⟨rfl, by simp [Response.body, be_eq_msbFirst, msbFirst_one], by simp⟩

end Sys2Proof.Machine
end

section
/-! Resolutions of the head (Chapter 5): a match and a missing declaration are what the obligations say of them, and the close
of the session that they may end (R86, R87). -/

namespace Sys2Proof.Machine

/-! ### Counts of the resolutions (R93) -/

/-- One more confirmed container. -/
def Totals.countConfirmed (t : Totals) : Totals := { t with confirmed := satAdd t.confirmed 1 }

/-- One more missing record. -/
def Totals.countMissing (t : Totals) : Totals := { t with missing := satAdd t.missing 1 }

theorem leavesIssued_countConfirmed : LeavesIssued Totals.countConfirmed := ⟨fun _ _ => rfl, fun _ => rfl⟩

theorem leavesIssued_countMissing : LeavesIssued Totals.countMissing := ⟨fun _ _ => rfl, fun _ => rfl⟩

/-! ### A resolution but for the close that it causes -/

/-- A match but for the close: the deposit of an attached record becomes firm (R45). -/
def State.headFirm (s : State) (r : TransitRecord) (rest : List TransitRecord) : State :=
  let t := s.headConfirmed r rest
  (if r.attached then t.setLane r.lane ((t.lane r.lane).recordLeaves r.deposit r.deposit 1) else t).tallied
    Totals.countConfirmed

/-- A missing declaration but for the close: the deposit of an attached record leaves its session with the CREDIT notice, an
orphan's joins the paid-unreturned total (R46, R89). -/
def State.headLost (s : State) (r : TransitRecord) (rest : List TransitRecord) : State :=
  let t := s.headReleased r rest
  (if r.attached then (t.setLane r.lane ((t.lane r.lane).recordLeaves r.deposit 0 0)).raise (.lane r.lane) .credit
    else t.setTotals { t.table.totals with paidUnreturned := satAdd t.table.totals.paidUnreturned r.deposit }).tallied
    Totals.countMissing

section
variable (s : State) (r : TransitRecord) (rest : List TransitRecord)

theorem State.matchHead_ends : (s.headFirm r rest).EndsSessionOf (s.matchHead r rest) r := by
  have hmatch : s.matchHead r rest = ((s.headConfirmed r rest).confirmCredit r).tallied Totals.countConfirmed := rfl
  rw [hmatch, State.EndsSessionOf, State.headFirm, State.confirmCredit]
  cases r.attached with
  | true =>
    simp only [if_true]
    rw [← State.closeIfSettled_tallied leavesIssued_countConfirmed]
    exact State.endsIfSettled_closeIfSettled _ _
  | false => rfl

theorem State.missHead_ends : (s.headLost r rest).EndsSessionOf (s.missHead r rest) r := by
  have hmiss : s.missHead r rest = ((s.headReleased r rest).loseCredit r).tallied Totals.countMissing := rfl
  rw [hmiss, State.EndsSessionOf, State.headLost, State.loseCredit]
  cases r.attached with
  | true =>
    simp only [if_true]
    rw [← State.closeIfSettled_tallied leavesIssued_countMissing]
    exact State.endsIfSettled_closeIfSettled _ _
  | false => rfl

/-! ### What it leaves of the marks, the bins and the links -/

theorem State.heldCauses_congr {s t : State} (hbelt : t.belt = s.belt) (hhold : t.merge.mergeHold = s.merge.mergeHold)
    (hreject : t.reject = s.reject) (hsupply : t.supply = s.supply) : t.heldCauses = s.heldCauses := by
  unfold State.heldCauses State.inHoldUp
  rw [hbelt, hhold, hreject, hsupply]

/-- A state with the queue, bins and marks of a removal is a removal for them. -/
theorem State.headRemoved_of {s t : State} {rest : List TransitRecord} {b : BinId} (htransit : t.transit = rest)
    (hbins : ∀ a, a ≠ b → t.bin a = s.bin a) (hmerge : t.merge = (s.removeHead rest).merge) (hbelt : t.belt = s.belt)
    (hreject : t.reject = s.reject) (hsupply : t.supply = s.supply) (hcheckout : t.port .checkout = s.port .checkout)
    (hoffice : t.port .office = if (t.bin b).state = (s.bin b).state then s.port .office
      else { s.port .office with notices := { (s.port .office).notices with bin := true } }) :
    s.HeadRemoved t rest b := by
  have hheld : t.heldCauses = (s.removeHead rest).heldCauses :=
    State.heldCauses_congr (by rw [hbelt, State.removeHead_belt]) (by rw [hmerge]) (by rw [hreject, State.removeHead_reject])
      (by rw [hsupply, State.removeHead_supply])
  refine ⟨htransit, hbins, ?_, hcheckout, hoffice⟩
  rw [hmerge, hheld]
  exact s.removeHead_merge rest

theorem State.headConfirmed_port_office :
    (s.headConfirmed r rest).port .office =
      if ((s.headConfirmed r rest).bin r.bin).state = (s.bin r.bin).state then s.port .office
      else { s.port .office with notices := { (s.port .office).notices with bin := true } } := by
  have h := State.confirmFill_port_office
    { s.removeHead rest with chute := ⟨chuteOf r.bin, by unfold chuteOf; omega⟩ } r.bin r.volume
  have hbin : (s.removeHead rest).bin r.bin = s.bin r.bin := by simp
  have hport : (s.removeHead rest).port .office = s.port .office := by simp
  rw [← hbin, ← hport]
  exact h

theorem State.headReleased_port_office :
    (s.headReleased r rest).port .office =
      if ((s.headReleased r rest).bin r.bin).state = (s.bin r.bin).state then s.port .office
      else { s.port .office with notices := { (s.port .office).notices with bin := true } } := by
  have h := State.releaseFill_port_office (s.removeHead rest) r.bin r.volume
  have hbin : (s.removeHead rest).bin r.bin = s.bin r.bin := by simp
  have hport : (s.removeHead rest).port .office = s.port .office := by simp
  rw [← hbin, ← hport]
  exact h

/-- The lane links are told of a change of held (R56). -/
theorem State.headConfirmed_noticed (k : LaneId) :
    (s.headConfirmed r rest).port (.lane k) =
      (s.port (.lane k)).noticed ((s.headConfirmed r rest).merge.held != s.merge.held) := by
  rw [State.headConfirmed_merge, ← State.removeHead_noticed, State.headConfirmed, State.confirmFill_port_lane]
  rfl

theorem State.headReleased_noticed (k : LaneId) :
    (s.headReleased r rest).port (.lane k) =
      (s.port (.lane k)).noticed ((s.headReleased r rest).merge.held != s.merge.held) := by
  rw [State.headReleased_merge, ← State.removeHead_noticed, State.headReleased, State.releaseFill_port_lane]

/-! ### A match (R86) -/

@[simp] theorem State.headFirm_merge : (s.headFirm r rest).merge = (s.removeHead rest).merge := by
  rw [State.headFirm]
  cases r.attached <;> simp [State.tallied]

theorem State.headFirm_port (l : Link) : (s.headFirm r rest).port l = (s.headConfirmed r rest).port l := by
  rw [State.headFirm]
  cases r.attached <;> rfl

theorem State.headFirm_bin (b : BinId) : (s.headFirm r rest).bin b = (s.headConfirmed r rest).bin b := by
  rw [State.headFirm]
  cases r.attached <;> rfl

theorem State.headFirm_lane (k : LaneId) :
    (s.headFirm r rest).lane k =
      if r.attached = true ∧ r.lane = k then (s.lane k).recordLeaves r.deposit r.deposit 1 else s.lane k := by
  rw [State.headFirm]
  cases r.attached with
  | true =>
    simp only [if_true, State.tallied, State.setTotals_lane, State.lane_setLane, State.headConfirmed_lane, true_and]
    by_cases hk : k = r.lane
    · rw [if_pos hk, if_pos hk.symm, hk]
    · rw [if_neg hk, if_neg fun h => hk h.symm]
  | false => simp [State.tallied]

/-- What a match leaves alone. -/
theorem State.headFirm_frame :
    s.headFirm r rest = { s with
      ports := (s.headFirm r rest).ports, chute := (s.headFirm r rest).chute, lanes := (s.headFirm r rest).lanes
      merge := (s.headFirm r rest).merge, transit := (s.headFirm r rest).transit, bins := (s.headFirm r rest).bins
      table := (s.headFirm r rest).table } := by
  apply State.ext_fields <;> simp [State.headFirm, State.headConfirmed, State.tallied] <;>
    cases r.attached <;> simp

/-- A match is what R86 says, but for the close of the session that it ends. -/
theorem State.headFirm_matched : s.HeadMatched (s.headFirm r rest) r rest := by
  have hchute : (s.headFirm r rest).chute.val = r.bin.val + 1 := by
    simp only [State.headFirm, State.headConfirmed, State.tallied]
    cases r.attached <;> simp [chuteOf]
  have hframe := s.headFirm_frame r rest
  have hbin : ∀ a, (s.headFirm r rest).bin a = _ := fun a => (s.headFirm_bin r rest a).trans (s.headConfirmed_bin r rest a)
  refine ⟨State.headRemoved_of ?_ (fun a ha => ?_) (s.headFirm_merge r rest) (congrArg State.belt hframe :)
    (congrArg State.reject hframe :) (congrArg State.supply hframe :) ?_ ?_, hchute, ?_, ?_, s.headFirm_lane r rest, fun k => ?_,
    hframe⟩
  · rw [State.headFirm]
    cases r.attached <;> simp [State.tallied]
  · rw [hbin, if_neg ha]
  · rw [State.headFirm_port]
    simp [State.headConfirmed]
  · rw [State.headFirm_port, State.headFirm_bin]
    exact s.headConfirmed_port_office r rest
  · rw [hbin, if_pos rfl]
    rfl
  · rw [State.headFirm]
    cases r.attached <;> simp [State.tallied] <;> rfl
  · rw [State.headFirm_port, State.headFirm_merge, ← State.headConfirmed_merge s r rest]
    exact s.headConfirmed_noticed r rest k

/-! ### A missing declaration (R87) -/

@[simp] theorem State.headLost_merge : (s.headLost r rest).merge = (s.removeHead rest).merge := by
  rw [State.headLost]
  cases r.attached <;> simp [State.tallied]

theorem State.headLost_port_ne {l : Link} (hl : l ≠ .lane r.lane) :
    (s.headLost r rest).port l = (s.headReleased r rest).port l := by
  rw [State.headLost]
  cases r.attached with
  | true => exact State.raise_port_ne _ _ hl
  | false => rfl

theorem State.headLost_port_lane (k : LaneId) :
    (s.headLost r rest).port (.lane k) =
      if r.attached = true ∧ r.lane = k then
        { (s.headReleased r rest).port (.lane k) with
          notices := { ((s.headReleased r rest).port (.lane k)).notices with credit := true } }
      else (s.headReleased r rest).port (.lane k) := by
  by_cases hk : r.lane = k
  · subst hk
    rw [State.headLost]
    cases r.attached with
    | true =>
      rw [if_pos rfl, if_pos ⟨rfl, rfl⟩]
      exact State.raise_port_self _ _ _
    | false => rfl
  · rw [if_neg fun h => hk h.2]
    exact s.headLost_port_ne r rest fun h => hk (by cases h; rfl)

theorem State.headLost_bin (b : BinId) : (s.headLost r rest).bin b = (s.headReleased r rest).bin b := by
  rw [State.headLost]
  cases r.attached <;> rfl

theorem State.headLost_lane (k : LaneId) :
    (s.headLost r rest).lane k =
      if r.attached = true ∧ r.lane = k then (s.lane k).recordLeaves r.deposit 0 0 else s.lane k := by
  rw [State.headLost]
  cases r.attached with
  | true =>
    simp only [if_true, State.tallied, State.setTotals_lane, State.raise_lane, State.lane_setLane, State.headReleased_lane,
      true_and]
    by_cases hk : k = r.lane
    · rw [if_pos hk, if_pos hk.symm, hk]
    · rw [if_neg hk, if_neg fun h => hk h.symm]
  | false => simp [State.tallied]

/-- What a missing declaration leaves alone. -/
theorem State.headLost_frame :
    s.headLost r rest = { s with
      ports := (s.headLost r rest).ports, lanes := (s.headLost r rest).lanes, merge := (s.headLost r rest).merge
      transit := (s.headLost r rest).transit, bins := (s.headLost r rest).bins, table := (s.headLost r rest).table } := by
  apply State.ext_fields <;> simp [State.headLost, State.headReleased, State.tallied] <;>
    cases r.attached <;> simp

/-- A missing declaration is what R87 says, but for the close of the session that it ends. -/
theorem State.headLost_missed : s.HeadMissed (s.headLost r rest) r rest := by
  have hframe := s.headLost_frame r rest
  have hbin : ∀ a, (s.headLost r rest).bin a = _ := fun a => (s.headLost_bin r rest a).trans (s.headReleased_bin r rest a)
  refine ⟨State.headRemoved_of ?_ (fun a ha => ?_) (s.headLost_merge r rest) (congrArg State.belt hframe :)
    (congrArg State.reject hframe :) (congrArg State.supply hframe :) ?_ ?_, ?_, ?_, s.headLost_lane r rest, fun k => ?_,
    hframe⟩
  · rw [State.headLost]
    cases r.attached <;> simp [State.tallied]
  · rw [hbin, if_neg ha]
  · rw [State.headLost_port_ne _ _ _ (by simp)]
    simp [State.headReleased]
  · rw [State.headLost_port_ne _ _ _ (by simp), State.headLost_bin]
    exact s.headReleased_port_office r rest
  · rw [hbin, if_pos rfl]
  · rw [State.headLost]
    cases r.attached <;> simp [State.tallied] <;> rfl
  · rw [State.headLost_port_lane, State.headLost_merge, ← State.headReleased_merge s r rest, State.headReleased_noticed]

end

/-! ### The edge in the window -/

/-- An edge in the window of the head is a match, with the pass of its removal (R82, R95). -/
theorem State.decideEdge_of_inWindow {s : State} {e : Count} {r : TransitRecord} {rest : List TransitRecord}
    (hhead : s.transit = r :: rest) (hlow : -(s.corner.tolerance : Int) ≤ signedDistance r.due e)
    (hhigh : signedDistance r.due e ≤ s.corner.tolerance) : s.decideEdge e = (s.matchHead r rest).mergePass := by
  have hpos : windowPosition s.corner.tolerance r.due e = .inWindow := (windowPosition_inWindow _ _ _).mpr ⟨hlow, hhigh⟩
  rw [State.decideEdge, hhead]
  simp only [hpos]

/-- Settles O9: the edge is decided as a match (`State.decideEdge_of_inWindow`), whose effects are `State.headFirm_matched` and
`State.matchHead_ends`. -/
theorem matchOfHead : Obligations.MatchOfHead := by
  intro s r rest hup heye hhead hlow hhigh
  refine ⟨s.atEdge.headFirm r rest, s.atEdge.matchHead r rest, ?_, State.headFirm_matched _ r rest,
    State.matchHead_ends _ r rest⟩
  rw [exec_leadingEdge_none hup heye, State.decideEdge_of_inWindow (s := s.atEdge) hhead hlow hhigh]

end Sys2Proof.Machine
end

section
/-! An advance of the encoder count and the edge that it may come with (R4, R10, R12, R70, R73, R83, R85): the jam watch, the
heads that a pass can leave, and the late edge. -/

namespace Sys2Proof.Machine

/-! ### The jam watch (R12) -/

/-- Of an advance, the jam watch alone writes Belt Control's state and the office BELT notice (R4, R12). -/
theorem State.pulse_belt (s : State) (order : AdvanceOrder) :
    ∃ u : State, u.belt = s.advanced.belt ∧ u.corner = s.corner ∧ (s.pulse order).belt = u.jamAdvance.belt ∧
      ((s.pulse order).port .office).notices.belt = (u.jamAdvance.port .office).notices.belt := by
  cases order with
  | jamGateMerge => exact ⟨s.advanced, rfl, rfl, by simp [State.pulse, takersOf, State.takeAdvance, State.advanceCount_eq]⟩
  | jamMergeGate => exact ⟨s.advanced, rfl, rfl, by simp [State.pulse, takersOf, State.takeAdvance, State.advanceCount_eq]⟩
  | gateJamMerge =>
    exact ⟨s.advanced.gateAdvance, by simp, by simp [State.advanced, State.corner],
      by simp [State.pulse, takersOf, State.takeAdvance, State.advanceCount_eq]⟩
  | gateMergeJam =>
    exact ⟨s.advanced.gateAdvance.mergePass, by simp, by simp [State.advanced, State.corner],
      by simp [State.pulse, takersOf, State.takeAdvance, State.advanceCount_eq]⟩
  | mergeJamGate =>
    exact ⟨s.advanced.mergePass, by simp, by simp [State.advanced, State.corner],
      by simp [State.pulse, takersOf, State.takeAdvance, State.advanceCount_eq]⟩
  | mergeGateJam =>
    exact ⟨s.advanced.mergePass.gateAdvance, by simp, by simp [State.advanced, State.corner],
      by simp [State.pulse, takersOf, State.takeAdvance, State.advanceCount_eq]⟩

/-- Settles O6: the jam watch's own part decides (`State.jamAdvance_declares`, `State.jamAdvance_below`). -/
theorem jamWatchOnAdvance : Obligations.JamWatchOnAdvance := by
  intro order s start hup hwatch
  obtain ⟨u, hbelt, hcorner, hpulse, hnotice⟩ := s.pulse_belt order
  have huwatch : u.belt.watch = some start := by rw [hbelt]; exact hwatch
  have hcount : u.belt.count = s.belt.count + 1 := by rw [hbelt]; rfl
  refine ⟨_, exec_encoderPulse hup order, fun hjam => ?_, fun hbelow => ?_⟩
  · have hdeclares := u.jamAdvance_declares start huwatch (by rw [hcorner, hcount]; exact hjam)
    rw [hpulse, hnotice, hdeclares, State.declareJam_belt, hbelt]
    exact ⟨rfl, u.declareJam_notice_belt⟩
  · rw [hpulse, u.jamAdvance_below start huwatch (by rw [hcorner, hcount]; exact hbelow), hbelt]
    rfl

/-! ### The queue under a pass -/

/-- A record is inserted before the first record that is not nearer (R78). -/
theorem insertByDue_cons (e : Count) (x r : TransitRecord) (rest : List TransitRecord) :
    insertByDue e x (r :: rest) =
      if signedDistance e r.due < signedDistance e x.due then r :: insertByDue e x rest else x :: r :: rest := rfl

/-- A property of the queue that survives the insertion of a candidate survives a pass. -/
theorem State.mergePass_transit_keeps {s : State} (hplan : s.PlanInRange) {P : List TransitRecord → Prop}
    (hinsert : ∀ x q, 64 ≤ signedDistance s.belt.count x.due → signedDistance s.belt.count x.due ≤ 6255 → P q →
      P (insertByDue s.belt.count x q)) (h : P s.transit) : P s.mergePass.transit := by
  have hfold : s.mergePass.plans = s.plans ∧ s.mergePass.belt = s.belt ∧ P s.mergePass.transit := by
    refine List.foldlRecOn (motive := fun t : State => t.plans = s.plans ∧ t.belt = s.belt ∧ P t.transit) _ State.decideClaim
      ⟨rfl, rfl, h⟩ fun t ⟨hplans, hbelt, ht⟩ c _ => ?_
    have htplan : t.PlanInRange := by
      unfold State.PlanInRange State.corner
      rw [hplans]
      exact hplan
    refine ⟨by simpa using hplans, by simpa using hbelt, ?_⟩
    obtain hd | ⟨b, _, _, hd⟩ | hd := t.decideClaim_cases c <;> rw [hd]
    · exact ht
    · have hcandidate := htplan.candidate c.lane
      rw [State.grant_transit, hbelt]
      rw [hbelt] at hcandidate
      exact hinsert _ _ (by simpa [State.grantedRecord, hbelt] using hcandidate.1)
        (by simpa [State.grantedRecord, hbelt] using hcandidate.2) ht
    · simpa using ht
  exact hfold.2.2

/-- A head that is not ahead stays the head under a pass. -/
theorem State.mergePass_head {s : State} (hplan : s.PlanInRange) {r : TransitRecord} {rest : List TransitRecord}
    (hhead : s.transit = r :: rest) (hnear : signedDistance s.belt.count r.due < 64) :
    ∃ rest', s.mergePass.transit = r :: rest' := by
  refine State.mergePass_transit_keeps hplan (P := fun q => ∃ rest', q = r :: rest') (fun x q hfar _ hq => ?_) ⟨rest, hhead⟩
  obtain ⟨rest', rfl⟩ := hq
  exact ⟨insertByDue s.belt.count x rest', by rw [insertByDue_cons, if_pos (by omega)]⟩

/-! ### Distances to a due from either side -/

/-- The missing point, as a distance from the count to the due. -/
theorem signedDistance_eq_succ_iff {due x : Count} {tolerance : Nat} (h : tolerance ≤ 255) :
    signedDistance due x = tolerance + 1 ↔ signedDistance x due = -(tolerance : Int) - 1 := by
  constructor
  · intro hd
    have := signedDistance_neg (a := due) (b := x) (by omega)
    omega
  · intro hd
    have := signedDistance_neg (a := x) (b := due) (by omega)
    omega

/-- Between two dues in reach the distance is the difference of their distances. -/
theorem signedDistance_natAbs_le {e a b : Count} (hle : signedDistance e a ≤ signedDistance e b)
    (hnear : signedDistance e b - signedDistance e a ≤ 32767) :
    ((signedDistance a b).natAbs : Int) = signedDistance e b - signedDistance e a := by
  unfold signedDistance at *
  simp only [BitVec.toNat_sub] at *
  split_ifs at * <;> omega

/-! ### Windows that are open or ahead -/

/-- Every record is at the end of its window at the latest, and the plan is in range (R80, R85). -/
def State.WindowsOpen (s : State) : Prop :=
  s.PlanInRange ∧ ∀ d ∈ s.transit.map TransitRecord.due, -(s.corner.tolerance : Int) ≤ signedDistance s.belt.count d

/-- A match and a missing declaration leave the dues of the rest. -/
theorem State.matchHead_dues (s : State) (r : TransitRecord) (rest : List TransitRecord) :
    (s.matchHead r rest).transit.map TransitRecord.due = rest.map TransitRecord.due := by
  rw [State.matchHead_eq]
  simp only [State.setTotals_transit, State.confirmCredit, State.closeIfSettled]
  split
  · split <;> simp [State.ordinaryClose, dues_detachAll]
  · simp

theorem State.missHead_dues (s : State) (r : TransitRecord) (rest : List TransitRecord) :
    (s.missHead r rest).transit.map TransitRecord.due = rest.map TransitRecord.due := by
  rw [State.missHead_eq]
  simp only [State.setTotals_transit, State.loseCredit, State.closeIfSettled]
  split
  · split <;> simp [State.ordinaryClose, dues_detachAll]
  · simp

theorem State.PlanInRange.congr {s t : State} (h : s.PlanInRange) (hactive : t.plans.active = s.plans.active) :
    t.PlanInRange := by
  unfold State.PlanInRange State.corner
  rw [hactive]
  exact h

theorem State.PlanInRange.jamLength_pos {s : State} (h : s.PlanInRange) : 0 < s.corner.jamLength := by
  obtain ⟨hrange, _, _⟩ := h
  simp only [Plan.inRange, GlobalPart.inRange, Bool.and_eq_true, decide_eq_true_eq] at hrange
  unfold State.corner
  omega

theorem State.WindowsOpen.of_dues {s t : State} (hplan : s.PlanInRange) (hactive : t.plans.active = s.plans.active)
    (hcount : t.belt.count = s.belt.count)
    (hdues : ∀ d ∈ t.transit.map TransitRecord.due, -(s.corner.tolerance : Int) ≤ signedDistance s.belt.count d) :
    t.WindowsOpen := by
  refine ⟨hplan.congr hactive, ?_⟩
  unfold State.corner
  rw [hactive, hcount]
  exact hdues

theorem windowsOpen_gate : GateLaw State.WindowsOpen where
  alike ha h := State.WindowsOpen.of_dues h.1 ha.active ha.count (by rw [ha.transit]; exact h.2)
  pass {s} _ h := by
    refine State.WindowsOpen.of_dues h.1 (by simp) (by simp) ?_
    refine State.mergePass_transit_keeps h.1 (P := fun q => ∀ d ∈ q.map TransitRecord.due,
      -(s.corner.tolerance : Int) ≤ signedDistance s.belt.count d) (fun x q hfar _ hq d hd => ?_) h.2
    have hmem := ((insertByDue_perm s.belt.count x q).map TransitRecord.due).mem_iff.mp hd
    obtain rfl | hmem := List.mem_cons.mp hmem
    · omega
    · exact hq d hmem
  matchHead {s r rest} _ hhead h := by
    refine State.WindowsOpen.of_dues h.1 (by simp) (by simp) ?_
    rw [State.matchHead_dues]
    exact fun d hd => h.2 d (by rw [hhead]; exact List.mem_cons_of_mem _ hd)
  missHead {s r rest} _ hhead h := by
    refine State.WindowsOpen.of_dues h.1 (by simp) (by simp) ?_
    rw [State.missHead_dues]
    exact fun d hd => h.2 d (by rw [hhead]; exact List.mem_cons_of_mem _ hd)

/-- With every window open or ahead the Gate Matcher finds no missing point (R85). -/
theorem State.WindowsOpen.gateAdvance {s : State} (h : s.WindowsOpen) : s.gateAdvance = s := by
  refine s.gateAdvance_idle fun r rest hhead => ?_
  have hdue := h.2 r.due (by rw [hhead]; simp)
  obtain ⟨htolerance, _, _⟩ := h.1.bounds
  rw [Ne, windowPosition_missingPoint, signedDistance_eq_succ_iff htolerance]
  omega

/-! ### The queue at an advance -/

/-- The head is at its missing point, and every other record at the end of its window at the latest (R80, R85). -/
def State.HeadMissing (s : State) (r : TransitRecord) (rest : List TransitRecord) : Prop :=
  s.PlanInRange ∧ s.transit = r :: rest ∧ signedDistance s.belt.count r.due = -(s.corner.tolerance : Int) - 1 ∧
    ∀ d ∈ rest.map TransitRecord.due, -(s.corner.tolerance : Int) ≤ signedDistance s.belt.count d

/-- After the count has advanced, the head is at its missing point or no record is; in the first case every other record is at
the opening of its window at the earliest, since the gap is more than two tolerances (R78, R80, R85, R138). -/
theorem State.advanced_windows {s : State} (hplan : s.PlanInRange) (hspaced : s.BeltSpaced) :
    s.advanced.WindowsOpen ∨ ∃ r rest, s.advanced.HeadMissing r rest ∧
      ∀ d ∈ rest.map TransitRecord.due, (s.corner.tolerance : Int) ≤ signedDistance s.advanced.belt.count d := by
  obtain ⟨hpairs, hbounds, _⟩ := hspaced
  obtain ⟨htolerance, _, _⟩ := hplan.bounds
  have hstep : ∀ q ∈ s.transit, signedDistance s.advanced.belt.count q.due = s.ahead q - 1 := fun q hq =>
    signedDistance_advance (by have := hbounds q hq; unfold State.ahead at this; omega)
  by_cases hmissing : ∃ r rest, s.transit = r :: rest ∧ s.ahead r = -(s.corner.tolerance : Int)
  · obtain ⟨r, rest, hhead, hdue⟩ := hmissing
    have hopening : ∀ d ∈ rest.map TransitRecord.due, (s.corner.tolerance : Int) ≤ signedDistance s.advanced.belt.count d := by
      intro d hd
      obtain ⟨q, hq, rfl⟩ := List.mem_map.mp hd
      have hmem : q ∈ s.transit := by rw [hhead]; exact List.mem_cons_of_mem _ hq
      rw [hhead] at hpairs
      obtain ⟨hlt, hgap⟩ := (List.pairwise_cons.mp hpairs).1 q hq
      obtain ⟨_, hfar⟩ := hbounds q hmem
      have hdistance : ((signedDistance r.due q.due).natAbs : Int) = s.ahead q - s.ahead r :=
        signedDistance_natAbs_le (e := s.belt.count) hlt.le (by unfold State.ahead at hfar hdue; omega)
      have hspan := hplan.2.1
      rw [hstep q hmem]
      omega
    refine .inr ⟨r, rest, ⟨hplan, hhead, ?_, fun d hd => ?_⟩, hopening⟩
    · rw [hstep r (by rw [hhead]; simp), hdue]
      rfl
    · have hcorner : s.advanced.corner = s.corner := rfl
      rw [hcorner]
      exact le_trans (by omega) (hopening d hd)
  · refine .inl ⟨hplan, fun d hd => ?_⟩
    obtain ⟨q, hq, rfl⟩ := List.mem_map.mp hd
    have hcorner : s.advanced.corner = s.corner := rfl
    have htransit : s.advanced.transit = s.transit := rfl
    rw [htransit] at hq
    rw [hstep q hq, hcorner]
    have hown := (hbounds q hq).1
    suffices s.ahead q ≠ -(s.corner.tolerance : Int) by omega
    intro heq
    cases hhead : s.transit with
    | nil => rw [hhead] at hq; cases hq
    | cons r rest =>
      have hr := (hbounds r (by rw [hhead]; simp)).1
      rw [hhead] at hq hpairs
      obtain rfl | hq := List.mem_cons.mp hq
      · exact hmissing ⟨q, rest, hhead, heq⟩
      · have := ((List.pairwise_cons.mp hpairs).1 q hq).1
        omega

/-- A head at its missing point stays there under a pass, and no other record comes there. -/
theorem State.HeadMissing.mergePass {s : State} {r : TransitRecord} {rest : List TransitRecord} (h : s.HeadMissing r rest) :
    ∃ rest', s.mergePass.HeadMissing r rest' := by
  obtain ⟨hplan, hhead, hdue, hrest⟩ := h
  obtain ⟨rest', htransit, hrest'⟩ : ∃ rest', s.mergePass.transit = r :: rest' ∧
      ∀ d ∈ rest'.map TransitRecord.due, -(s.corner.tolerance : Int) ≤ signedDistance s.belt.count d := by
    refine State.mergePass_transit_keeps hplan (P := fun q => ∃ rest', q = r :: rest' ∧
      ∀ d ∈ rest'.map TransitRecord.due, -(s.corner.tolerance : Int) ≤ signedDistance s.belt.count d)
      (fun x q hfar _ hq => ?_) ⟨rest, hhead, hrest⟩
    obtain ⟨rest', rfl, hrest'⟩ := hq
    refine ⟨insertByDue s.belt.count x rest', by rw [insertByDue_cons, if_pos (by omega)], fun d hd => ?_⟩
    have hmem := ((insertByDue_perm s.belt.count x rest').map TransitRecord.due).mem_iff.mp hd
    obtain rfl | hmem := List.mem_cons.mp hmem
    · omega
    · exact hrest' d hmem
  refine ⟨rest', hplan.congr (by simp), htransit, ?_, ?_⟩
  · simpa using hdue
  · simpa using hrest'

/-- The edge at the missing point of the head declares it missing and is decided again (R83). -/
theorem State.HeadMissing.decideEdge {s : State} {r : TransitRecord} {rest : List TransitRecord} (h : s.HeadMissing r rest) :
    s.decideEdge s.belt.count = (s.missHead r rest).decideAgain s.belt.count := by
  obtain ⟨hplan, hhead, hdue, _⟩ := h
  obtain ⟨htolerance, _, _⟩ := hplan.bounds
  have hpos : windowPosition s.corner.tolerance r.due s.belt.count = .missingPoint := by
    rw [windowPosition_missingPoint, signedDistance_eq_succ_iff htolerance]
    exact hdue
  rw [State.decideEdge, hhead]
  simp only [hpos]

/-- At the missing point of the head the Gate Matcher's part of an advance is its missing declaration (R85, R95). -/
theorem State.HeadMissing.gateAdvance {s : State} {r : TransitRecord} {rest : List TransitRecord} (h : s.HeadMissing r rest) :
    s.gateAdvance = (s.missHead r rest).mergePass := by
  obtain ⟨hplan, hhead, hdue, _⟩ := h
  obtain ⟨htolerance, _, _⟩ := hplan.bounds
  rw [State.gateAdvance, hhead]
  exact if_pos ((windowPosition_missingPoint _ _ _).mpr ((signedDistance_eq_succ_iff htolerance).mpr hdue))

theorem State.HeadMissing.missHead {s : State} {r : TransitRecord} {rest : List TransitRecord} (h : s.HeadMissing r rest) :
    (s.missHead r rest).WindowsOpen := by
  obtain ⟨hplan, hhead, hdue, hrest⟩ := h
  refine State.WindowsOpen.of_dues hplan (by simp) (by simp) ?_
  rw [State.missHead_dues]
  exact hrest

theorem State.HeadMissing.atEdge {s : State} {r : TransitRecord} {rest : List TransitRecord} (h : s.HeadMissing r rest) :
    s.atEdge.HeadMissing r rest := h

/-- After an edge no record is at its missing point, so the Gate Matcher has nothing to do at the advance (R83, R85). -/
theorem State.takeEdge_windowsOpen {s : State} (hup : s.isUp = true)
    (h : s.WindowsOpen ∨ ∃ r rest, s.HeadMissing r rest) : s.takeEdge.WindowsOpen := by
  obtain h | ⟨r, rest, h⟩ := h
  · exact windowsOpen_gate.takeEdge hup h
  · have hedge : s.takeEdge = s.atEdge.decideEdge s.atEdge.belt.count := rfl
    rw [hedge, h.atEdge.decideEdge]
    exact windowsOpen_gate.decideAgain (((s.atEdge).missHead_isUp r rest).trans hup) h.atEdge.missHead _

/-! ### An advance and its edge (R83) -/

/-- The edge starts the jam watch at the new count, where the advance does not jam it (R10, R12). -/
theorem State.jamAdvance_takeEdge {s : State} (hplan : s.PlanInRange) (t : State) (hbelt : t.belt = s.takeEdge.belt)
    (hcorner : t.corner = s.corner) : t.jamAdvance = t := by
  have hedge : t.belt = s.atEdge.belt := by
    rw [hbelt]
    exact State.decideEdge_belt _ _
  refine t.jamAdvance_below s.belt.count (by rw [hedge]; rfl) ?_
  have hcount : t.belt.count = s.belt.count := by rw [hedge]; rfl
  rw [hcount, signedDistance_self, hcorner]
  exact_mod_cast hplan.jamLength_pos

/-- With the watch idle, an edge and the advance that it comes with are the Gate Matcher's edge and advance and the pass, in
the order in which they take the advance (R4, R73, R83). -/
theorem State.pulseWithEdge_of_idle {s : State} (hwatch : s.belt.watch = none) (hplan : s.PlanInRange) (order : AdvanceOrder) :
    s.pulseWithEdge order =
      if gateBeforeMerge order then s.advanced.takeEdge.gateAdvance.mergePass
      else s.advanced.mergePass.takeEdge.gateAdvance := by
  have hidle : ∀ u : State, u.belt = s.advanced.belt → u.jamAdvance = u := fun u hu =>
    State.jamAdvance_idle u (by rw [hu]; exact hwatch)
  have hafter := State.jamAdvance_takeEdge (s := s.advanced) hplan
  have hafterPass := State.jamAdvance_takeEdge (s := s.advanced.mergePass) (hplan.congr (by simp [State.advanced]))
  cases order <;>
    simp [State.pulseWithEdge, takersOf, State.takeAdvanceAfterEdge, State.advanceCount_eq, gateBeforeMerge, hidle, hafter,
      hafterPass]

theorem exec_leadingEdge_some {s : State} (hup : s.isUp = true) (heye : s.belt.eyeBlocked = false) (order : AdvanceOrder) :
    exec (.leadingEdge (some order)) s = .next (s.pulseWithEdge order) := by
  have hedge : s.leadingEdge (some order) = s.pulseWithEdge order := by simp [State.leadingEdge, heye]
  rw [← hedge]
  exact congrArg Host.Outcome.next (State.whenUp_up hup _)

/-! ### A pulse (R3, R70, R85) -/

/-- Where no head is at its missing point, the Gate Matcher has nothing to do before a pass, and nothing after it. -/
theorem State.gateAdvance_around_pass {s : State} (hplan : s.PlanInRange)
    (hhead : ∀ r rest, s.transit = r :: rest → signedDistance r.due s.belt.count ≠ s.corner.tolerance + 1) :
    s.gateAdvance = s ∧ s.mergePass.gateAdvance = s.mergePass := by
  obtain ⟨htolerance, _, _⟩ := hplan.bounds
  refine ⟨s.gateAdvance_idle fun r rest hr => ?_, State.gateAdvance_idle _ ?_⟩
  · rw [Ne, windowPosition_missingPoint]
    exact hhead r rest hr
  · refine State.mergePass_transit_keeps hplan (P := fun q => ∀ r rest, q = r :: rest →
      windowPosition s.mergePass.corner.tolerance r.due s.mergePass.belt.count ≠ .missingPoint) (fun x q hfar _ hq r rest hr => ?_)
      (fun r rest hr => ?_)
    · cases q with
      | nil =>
        cases hr
        rw [Ne, windowPosition_missingPoint, State.mergePass_corner, State.mergePass_belt, signedDistance_eq_succ_iff htolerance]
        omega
      | cons y rest' =>
        rw [insertByDue_cons] at hr
        split at hr
        · cases hr
          exact hq r rest' rfl
        · cases hr
          rw [Ne, windowPosition_missingPoint, State.mergePass_corner, State.mergePass_belt,
            signedDistance_eq_succ_iff htolerance]
          omega
    · rw [Ne, windowPosition_missingPoint, State.mergePass_corner, State.mergePass_belt]
      exact hhead r rest hr

/-- Settles O5: the takers' frames (`State.pulse_frame`), and the idle watch and head (`State.gateAdvance_around_pass`). -/
theorem encoderPulseAdvancesCount : Obligations.EncoderPulseAdvancesCount := by
  intro order s hup
  obtain ⟨hcount, henable, hestop, heye, hrest⟩ := s.pulse_frame order
  obtain ⟨hchute, hrecog, hreject, hplans, hsupply, hchoices, hpending⟩ := hrest
  refine ⟨_, exec_encoderPulse hup order, hcount, henable, hestop, heye, hchute, hrecog, hreject, hplans, hsupply, hchoices,
    hpending, fun hwatch hhead => ⟨fun hplan => ?_, fun hclaims => ?_⟩⟩
  · obtain ⟨hbefore, hafter⟩ := State.gateAdvance_around_pass (s := s.advanced) hplan hhead
    rw [State.pulse_of_idle hwatch, hbefore, hafter]
    split <;> rfl
  · have hgate : s.advanced.gateAdvance = s.advanced := s.advanced.gateAdvance_idle fun r rest hr => by
      rw [Ne, windowPosition_missingPoint]
      exact hhead r rest hr
    have hpass : s.advanced.mergePass = s.advanced := s.advanced.mergePass_nil hclaims
    rw [State.pulse_of_idle hwatch, hpass, hgate, hpass]
    split <;> rfl

/-! ### The head at its missing point (R85, R87) -/

/-- The Gate Matcher declares a head at its missing point missing, with the pass of its removal (R85, R95). -/
theorem State.gateAdvance_of_missing {s : State} {r : TransitRecord} {rest : List TransitRecord} (hhead : s.transit = r :: rest)
    (hdue : signedDistance r.due s.belt.count = s.corner.tolerance + 1) : s.gateAdvance = (s.missHead r rest).mergePass := by
  rw [State.gateAdvance, hhead]
  exact if_pos ((windowPosition_missingPoint _ _ _).mpr hdue)

/-- Settles O7: the Gate Matcher finds the head at its missing point before a pass and after it
(`State.gateAdvance_of_missing`, `State.mergePass_head`). -/
theorem missingPointOnAdvance : Obligations.MissingPointOnAdvance := by
  intro order s r rest hup hclaims hwatch hhead hdue
  have hpulse := State.pulse_of_idle hwatch order
  refine ⟨fun hgate => ⟨_, _, State.headLost_missed _ r rest, State.missHead_ends _ r rest, ?_⟩, fun hgate => ?_⟩
  · rw [exec_encoderPulse hup, hpulse, if_pos hgate, State.gateAdvance_of_missing (s := s.advanced) hhead hdue]
  · obtain ⟨rest', hhead'⟩ : ∃ rest', s.advanced.mergePass.transit = r :: rest' := by
      obtain hclaims | hplan := hclaims
      · exact ⟨rest, by rw [s.advanced.mergePass_nil hclaims]; exact hhead⟩
      · obtain ⟨htolerance, _, _⟩ := hplan.bounds
        refine State.mergePass_head (s := s.advanced) hplan hhead ?_
        have := (signedDistance_eq_succ_iff htolerance).mp hdue
        exact lt_of_eq_of_lt this (by omega)
    refine ⟨rest', _, _, hhead', State.headLost_missed _ r rest', State.missHead_ends _ r rest', ?_⟩
    rw [exec_encoderPulse hup, hpulse, if_neg (by simp [hgate]), State.gateAdvance_of_missing hhead' ?_]
    rw [State.mergePass_corner, State.mergePass_belt]
    exact hdue

/-! ### The edge at the missing point (R83, R84) -/

/-- The second decision of a late edge, against a head whose window opens at the edge at the earliest (R83). -/
theorem State.decideAgain_of_opening {s : State} {e : Count} {q : TransitRecord} {rest : List TransitRecord}
    (hhead : s.transit = q :: rest) :
    (signedDistance q.due e = -(s.corner.tolerance : Int) →
      s.decideAgain e = (s.matchHead q rest).mergePass.mergePass) ∧
    (signedDistance q.due e < -(s.corner.tolerance : Int) → s.decideAgain e = s.stray.mergePass) := by
  rw [State.decideAgain, hhead]
  refine ⟨fun heq => if_pos ((windowPosition_inWindow _ _ _).mpr (by omega)), fun hlt => if_neg ?_⟩
  rw [windowPosition_inWindow]
  omega

theorem State.decideAgain_of_nil {s : State} (h : s.transit = []) (e : Count) : s.decideAgain e = s.stray.mergePass := by
  rw [State.decideAgain, h]

/-- With no claim waiting a second pass finds nothing. -/
theorem State.mergePass_mergePass_of_nil {s : State} (h : s.merge.claims = []) : s.mergePass.mergePass = s.mergePass := by
  rw [s.mergePass_nil h, s.mergePass_nil h]

theorem State.decideAgain_claims (s : State) (e : Count) (h : s.merge.claims = []) : (s.decideAgain e).merge.claims = [] := by
  have hstray : s.stray.merge.claims = [] := by rw [State.stray_merge]; exact h
  unfold State.decideAgain
  split
  · rw [State.mergePass_nil _ hstray]
    exact hstray
  next r rest _ =>
    have hmatch : (s.matchHead r rest).merge.claims = [] := by simpa using h
    split
    · rw [State.mergePass_mergePass_of_nil hmatch, State.mergePass_nil _ hmatch]
      exact hmatch
    · rw [State.mergePass_nil _ hstray]
      exact hstray

/-- A late edge with its advance: the missing declaration, the second decision, and the pass (R83, R84). -/
theorem State.pulseWithEdge_of_missing {s : State} {r : TransitRecord} {rest : List TransitRecord} (hup : s.isUp = true)
    (hwatch : s.belt.watch = none) (h : s.advanced.HeadMissing r rest) {order : AdvanceOrder}
    (horder : s.merge.claims = [] ∨ gateBeforeMerge order = true) :
    s.pulseWithEdge order = ((s.advanced.atEdge.missHead r rest).decideAgain s.advanced.belt.count).mergePass := by
  have hedge : s.advanced.takeEdge = (s.advanced.atEdge.missHead r rest).decideAgain s.advanced.belt.count :=
    h.atEdge.decideEdge
  have hopen : s.advanced.takeEdge.WindowsOpen := State.takeEdge_windowsOpen hup (.inr ⟨r, rest, h⟩)
  rw [State.pulseWithEdge_of_idle hwatch h.1, ← hedge]
  split
  · rw [hopen.gateAdvance]
  next hafter =>
    have hclaims : s.merge.claims = [] := horder.resolve_right hafter
    rw [s.advanced.mergePass_nil hclaims, hopen.gateAdvance, State.mergePass_nil]
    rw [hedge]
    exact State.decideAgain_claims _ _ (by simpa [State.atEdge, State.advanced] using hclaims)

/-- A head that an advance brings to its missing point, on a spaced queue. -/
theorem State.headMissing_of_due {s : State} {r : TransitRecord} {rest : List TransitRecord} (hplan : s.PlanInRange)
    (hspaced : s.BeltSpaced) (hhead : s.transit = r :: rest)
    (hdue : signedDistance r.due (s.belt.count + 1) = s.corner.tolerance + 1) :
    s.advanced.HeadMissing r rest ∧
      ∀ d ∈ rest.map TransitRecord.due, signedDistance d s.advanced.belt.count ≤ -(s.corner.tolerance : Int) := by
  obtain ⟨htolerance, _, _⟩ := hplan.bounds
  have hmissing := (signedDistance_eq_succ_iff htolerance).mp hdue
  obtain ⟨_, hopen⟩ | ⟨r', rest', h, hopening⟩ := State.advanced_windows hplan hspaced
  · have hlow : -(s.corner.tolerance : Int) ≤ signedDistance (s.belt.count + 1) r.due :=
      hopen r.due (by rw [show s.advanced.transit = r :: rest from hhead]; simp)
    omega
  · obtain ⟨rfl, rfl⟩ := List.cons_eq_cons.mp (hhead.symm.trans h.2.1)
    refine ⟨h, fun d hd => ?_⟩
    have := hopening d hd
    rw [signedDistance_neg (by omega)]
    omega

/-- Settles O11: the edge and the advance (`State.pulseWithEdge_of_missing`), and the second decision against a head that is at
the opening of its window at the earliest (`State.headMissing_of_due`). -/
theorem lateEdge : Obligations.LateEdge := by
  intro order s r rest hup heye hwatch horder hplan hspaced hhead hdue
  obtain ⟨hmissing, hopening⟩ := State.headMissing_of_due hplan hspaced hhead hdue
  have hexec := exec_leadingEdge_some hup heye order
  rw [State.pulseWithEdge_of_missing hup hwatch hmissing horder] at hexec
  have hmissed := State.headLost_missed s.advanced.atEdge r rest
  have hends := State.missHead_ends s.advanced.atEdge r rest
  have hdues := State.missHead_dues s.advanced.atEdge r rest
  have hcorner : (s.advanced.atEdge.missHead r rest).corner = s.corner := State.missHead_corner _ _ _
  have hcount : (s.advanced.atEdge.missHead r rest).belt.count = s.advanced.belt.count :=
    (congrArg BeltControl.count (State.missHead_belt s.advanced.atEdge r rest) :)
  generalize s.advanced.atEdge.missHead r rest = n at hexec hends hdues hcorner hcount
  cases hqueue : n.transit with
  | nil =>
    rw [State.decideAgain_of_nil hqueue] at hexec
    exact ⟨_, n, n.stray, hmissed, hends, fun q rest' h => absurd (hqueue.symm.trans h) (by simp), fun _ => ⟨n.stray_taken, hexec⟩⟩
  | cons q rest' =>
    have hq : signedDistance q.due n.belt.count ≤ -(s.corner.tolerance : Int) := by
      rw [hcount]
      exact hopening q.due (by rw [← hdues, hqueue]; simp)
    obtain ⟨hmatch, hstray⟩ := State.decideAgain_of_opening (e := s.advanced.belt.count) hqueue
    rw [hcorner, ← hcount] at hmatch hstray
    rw [← hcount] at hexec
    obtain hlt | heq := lt_or_eq_of_le hq
    · rw [hstray hlt] at hexec
      refine ⟨_, n, n.stray, hmissed, hends, fun q' rest'' h => ?_, fun h => absurd (hqueue.symm.trans h) (by simp)⟩
      obtain ⟨rfl, rfl⟩ := List.cons_eq_cons.mp (hqueue.symm.trans h)
      exact ⟨hq, fun heq => absurd heq hlt.ne, fun _ => ⟨n.stray_taken, hexec⟩⟩
    · rw [hmatch heq] at hexec
      refine ⟨_, n, n.matchHead q rest', hmissed, hends, fun q' rest'' h => ?_, fun h => absurd (hqueue.symm.trans h) (by simp)⟩
      obtain ⟨rfl, rfl⟩ := List.cons_eq_cons.mp (hqueue.symm.trans h)
      exact ⟨hq, fun _ => ⟨_, n.headFirm_matched q rest', n.matchHead_ends q rest', hexec⟩, fun hlt => absurd heq hlt.ne⟩

end Sys2Proof.Machine
end

section
/-! The edge with its advance in every order (R4, R83): the edge's own part at Belt Control does not meet a missing declaration. -/

namespace Sys2Proof.Machine

/-! ### Belt Control's lines and a missing declaration (R9, R87) -/

/-- Belt Control's state replaced. -/
def State.withBelt (s : State) (b : BeltControl) : State := { s with belt := b }

section
variable (s : State) (b : BeltControl)

theorem State.closeSession_withBelt (k : LaneId) (power : Bool) :
    (s.withBelt b).closeSession k power = (s.closeSession k power).withBelt b := by
  have htable : ((s.withBelt b).closeSession k power).table = (s.closeSession k power).table := by
    rw [State.closeSession_settles, State.closeSession_settles]
    rfl
  refine State.ext_fields (State.ports_ext fun m => ?_) (by simp [State.withBelt]) (by simp [State.withBelt])
    (by simp [State.withBelt]) (State.lanes_ext fun j => ?_) (by simp [State.withBelt]) (by simp [State.withBelt])
    (by simp [State.withBelt]) (by simp [State.withBelt]) htable (by simp [State.withBelt]) (by simp [State.withBelt])
    (by simp [State.withBelt]) (by simp [State.withBelt])
  · have hport : ∀ u : State, (u.withBelt b).port m = u.port m := fun _ => rfl
    by_cases hm : m = .lane k
    · subst hm
      rw [hport, State.closeSession_port_closed, State.closeSession_port_closed, htable]
      rfl
    · rw [hport, State.closeSession_port_ne _ _ hm, State.closeSession_port_ne _ _ hm, hport]
  · have hlane : ∀ u : State, (u.withBelt b).lane j = u.lane j := fun _ => rfl
    rw [hlane, State.closeSession_lane, State.closeSession_lane, htable]
    rfl

theorem State.closeIfSettled_withBelt (k : LaneId) : (s.withBelt b).closeIfSettled k = (s.closeIfSettled k).withBelt b := by
  unfold State.closeIfSettled
  rw [apply_ite (State.withBelt · b)]
  exact ite_congr rfl (fun _ => State.closeSession_withBelt (s.setLane k ((s.lane k).unconfirming 0 0)) b k false) fun _ => rfl

theorem State.loseCredit_withBelt (r : TransitRecord) : (s.withBelt b).loseCredit r = (s.loseCredit r).withBelt b := by
  unfold State.loseCredit
  rw [apply_ite (State.withBelt · b)]
  exact ite_congr rfl (fun _ => State.closeIfSettled_withBelt
    ((s.setLane r.lane ((s.lane r.lane).recordLeaves r.deposit 0 0)).raise (.lane r.lane) .credit) b r.lane) fun _ => rfl

theorem State.drainIfEmpty_withBelt (a : BinId) : (s.withBelt b).drainIfEmpty a = (s.drainIfEmpty a).withBelt b := by
  have hbin : (s.withBelt b).bin a = s.bin a := rfl
  simp only [State.drainIfEmpty, hbin]
  cases (s.bin a).state with
  | draining t =>
    by_cases hempty : (s.bin a).reserved = 0
    · simp only [if_pos hempty]
      rfl
    · simp only [if_neg hempty]
  | out | serving | released => rfl

theorem State.releaseFill_withBelt (a : BinId) (v : Nat) :
    (s.withBelt b).releaseFill a v = (s.releaseFill a v).withBelt b :=
  State.drainIfEmpty_withBelt (s.setBin a { s.bin a with reserved := (s.bin a).reserved - v }) b a

variable {s b}

theorem State.reformHeld_withBelt (hb : b.running = s.belt.running) :
    (s.withBelt b).reformHeld = s.reformHeld.withBelt b := by
  have hcauses : (s.withBelt b).heldCauses = s.heldCauses := by simp [State.heldCauses, State.withBelt, State.inHoldUp, hb]
  unfold State.reformHeld
  rw [apply_ite (State.withBelt · b), hcauses]
  rfl

theorem State.missHead_withBelt (hb : b.running = s.belt.running) (r : TransitRecord) (rest : List TransitRecord) :
    (s.withBelt b).missHead r rest = (s.missHead r rest).withBelt b := by
  have hremove : (s.withBelt b).removeHead rest = (s.removeHead rest).withBelt b :=
    State.reformHeld_withBelt (s := State.setMergeHold { s with transit := rest } (State.holdAfterRemoval { s with transit := rest })) hb
  have hlose : (((s.withBelt b).removeHead rest).releaseFill r.bin r.volume).loseCredit r =
      (((s.removeHead rest).releaseFill r.bin r.volume).loseCredit r).withBelt b := by
    rw [hremove, State.releaseFill_withBelt, State.loseCredit_withBelt]
  exact congrArg (fun u : State => u.setTotals { u.table.totals with missing := satAdd u.table.totals.missing 1 }) hlose

end

/-- The edge at Belt Control before a missing declaration is the edge after it. -/
theorem State.missHead_atEdge (s : State) (r : TransitRecord) (rest : List TransitRecord) :
    s.atEdge.missHead r rest = (s.missHead r rest).atEdge := by
  have hbelt : (s.missHead r rest).belt = s.belt := State.missHead_belt s r rest
  have hedge : (s.missHead r rest).atEdge = (s.missHead r rest).withBelt { s.belt with eyeBlocked := true, watch := some s.belt.count } := by
    rw [← hbelt]
    rfl
  rw [hedge]
  exact State.missHead_withBelt (s := s) (b := { s.belt with eyeBlocked := true, watch := some s.belt.count }) rfl r rest

/-! ### The orders of R83 -/

/-- With no claim waiting, and a head whose window opens at the edge at the earliest, the second decision of a late edge is
the decision of an edge (R83). -/
theorem State.decideAgain_eq_decideEdge {s : State} (hclaims : s.merge.claims = []) {e : Count}
    (hopening : ∀ q rest, s.transit = q :: rest → signedDistance q.due e ≤ -(s.corner.tolerance : Int)) :
    s.decideAgain e = s.decideEdge e := by
  have hstray : s.stray.mergePass = s.stray := State.mergePass_nil _ (by rw [State.stray_merge]; exact hclaims)
  cases hqueue : s.transit with
  | nil => rw [State.decideAgain_of_nil hqueue, hstray, State.decideEdge_of_early fun q rest h => absurd (hqueue.symm.trans h) (by simp)]
  | cons q rest =>
    obtain ⟨hmatch, hearly⟩ := State.decideAgain_of_opening (e := e) hqueue
    obtain hlt | heq := lt_or_eq_of_le (hopening q rest hqueue)
    · rw [hearly hlt, hstray, State.decideEdge_of_early fun q' rest' h => ?_]
      obtain ⟨rfl, rfl⟩ := List.cons_eq_cons.mp (hqueue.symm.trans h)
      exact hlt
    · have hafter : (s.matchHead q rest).merge.claims = [] := by simpa using hclaims
      rw [hmatch heq, State.mergePass_mergePass_of_nil hafter,
        State.decideEdge_of_inWindow hqueue (by omega) (by omega)]

/-- With no claim waiting and the watch idle, an advance to the missing point is the missing declaration and nothing else
(R85, R87). -/
theorem State.pulse_of_missing {s : State} {r : TransitRecord} {rest : List TransitRecord} (hwatch : s.belt.watch = none)
    (hclaims : s.merge.claims = []) (hhead : s.transit = r :: rest)
    (hdue : signedDistance r.due (s.belt.count + 1) = s.corner.tolerance + 1) (order : AdvanceOrder) :
    s.pulse order = s.advanced.missHead r rest := by
  have hafter : (s.advanced.missHead r rest).merge.claims = [] := by simpa [State.advanced] using hclaims
  have hpass : s.advanced.mergePass = s.advanced := s.advanced.mergePass_nil hclaims
  rw [State.pulse_of_idle hwatch, hpass, State.gateAdvance_of_missing (s := s.advanced) hhead hdue,
    State.mergePass_mergePass_of_nil hafter, State.mergePass_nil _ hafter]
  split <;> rfl

/-- Settles O12: after the edge no record is at its missing point (`State.takeEdge_windowsOpen`), and the edge does not meet the
missing declaration (`State.missHead_atEdge`). -/
theorem edgeAndAdvanceAgree : Obligations.EdgeAndAdvanceAgree := by
  intro order s hup heye hwatch hplan hspaced
  have hwindows : s.advanced.WindowsOpen ∨ ∃ r rest, s.advanced.HeadMissing r rest := by
    obtain h | ⟨r, rest, h, _⟩ := State.advanced_windows hplan hspaced
    · exact .inl h
    · exact .inr ⟨r, rest, h⟩
  have hexec := exec_leadingEdge_some hup heye order
  rw [State.pulseWithEdge_of_idle hwatch hplan] at hexec
  refine ⟨fun hgate => ⟨_, exec_leadingEdge_none (s := s.advanced) hup heye, ?_⟩, fun hgate => ⟨_, exec_leadingEdge_none
    (s := s.advanced.mergePass) (by simpa [State.advanced] using hup) (by simpa [State.advanced] using heye), ?_⟩,
    fun r rest hclaims hhead hdue => ?_⟩
  · rw [if_pos hgate, (State.takeEdge_windowsOpen (s := s.advanced) hup hwindows).gateAdvance] at hexec
    exact hexec
  · have hpass : s.advanced.mergePass.WindowsOpen ∨ ∃ r rest, s.advanced.mergePass.HeadMissing r rest := by
      obtain h | ⟨r, rest, h⟩ := hwindows
      · exact .inl (windowsOpen_gate.pass hup h)
      · exact .inr ⟨r, h.mergePass⟩
    rw [if_neg (by simp [hgate]), (State.takeEdge_windowsOpen (by simpa [State.advanced] using hup) hpass).gateAdvance] at hexec
    exact hexec
  · obtain ⟨hmissing, hopening⟩ := State.headMissing_of_due hplan hspaced hhead hdue
    have hsome := exec_leadingEdge_some hup heye order
    rw [State.pulseWithEdge_of_missing hup hwatch hmissing (.inl hclaims)] at hsome
    have hpulse := exec_encoderPulse hup order
    rw [State.pulse_of_missing hwatch hclaims hhead hdue] at hpulse
    have hnone := exec_leadingEdge_none (s := s.advanced.missHead r rest) (by simpa [State.advanced] using hup)
      (by simpa [State.advanced] using heye)
    rw [← State.missHead_atEdge, congrArg BeltControl.count (State.missHead_belt s.advanced r rest)] at hnone
    have hnil : (s.advanced.atEdge.missHead r rest).merge.claims = [] := by
      simpa [State.atEdge, State.advanced] using hclaims
    have hcorner : (s.advanced.atEdge.missHead r rest).corner = s.corner := State.missHead_corner _ _ _
    have hagain : (s.advanced.atEdge.missHead r rest).decideAgain s.advanced.belt.count =
        (s.advanced.atEdge.missHead r rest).decideEdge s.advanced.belt.count := by
      refine State.decideAgain_eq_decideEdge hnil fun q rest' hq => ?_
      rw [hcorner]
      exact hopening q.due (by rw [← State.missHead_dues s.advanced.atEdge r rest, hq]; simp)
    rw [State.mergePass_nil _ (State.decideAgain_claims _ _ hnil), hagain] at hsome
    exact ⟨_, _, hsome, hpulse, hnone⟩

end Sys2Proof.Machine
end

section
/-! The end of a SETTLING session (R46, R49 to R51): at its limit, and at the match or the missing declaration of its last
record. -/

namespace Sys2Proof.Machine

/-! ### The settle timer (R48, R51) -/

/-- An expiry of the settle timer is the limit close where the timer is at its limit in SETTLING, and nothing otherwise. -/
theorem exec_settleTimerExpiry {s : State} (hup : s.isUp = true) (k : LaneId) :
    exec (.settleTimerExpiry k) s =
      .next (if (s.lane k).settleDue then s.expireSettle k else s) :=
  congrArg Host.Outcome.next (State.whenUp_up hup _)

theorem State.expireSettle_of_settling {s : State} {k : LaneId} (hst : (s.lane k).state = .settling) :
    s.expireSettle k = s.limitClose k := if_pos hst

/-! ### A close after its resolution -/

/-- Notices set on a link before its END is answered stand beside the answer. -/
theorem LinkPort.AnsweredByEvent.of_notices {p q : LinkPort} {f : List Byte} {n m : Notices}
    (h : LinkPort.AnsweredByEvent { p with notices := n } q f m) : p.AnsweredByEvent q f m := h

/-- The close that a resolution causes, seen from before the resolution: the lane's context is `l` after it, and its link's
notices are `n`. -/
theorem State.EndsIfSettled.closes {s m u : State} {k : LaneId} {i : SlotId} {l : Lane} {n : Notices} {f : Totals → Totals}
    (h : m.EndsIfSettled u k) (hlane : m.lane k = l) (hothers : ∀ j, j ≠ k → m.lane j = s.lane j)
    (htable : m.table = { s.table with totals := f s.table.totals }) (hissued : (f s.table.totals).issued = s.table.totals.issued)
    (hkept : (f s.table.totals).redeemed = s.table.totals.redeemed ∧ (f s.table.totals).voided = s.table.totals.voided ∧
      (f s.table.totals).paidUnreturned = s.table.totals.paidUnreturned)
    (hport : m.port (.lane k) = { s.port (.lane k) with notices := n })
    (hst : l.state = .settling) (hcount : l.transitCount = 0) (hslot : l.slot = some i)
    (hend : (s.port (.lane k)).inFlight = some .endSession) :
    s.SessionClosed u k i l.firmCredit l.firmCount 0 false l.parkPending ∧
      u.transit = m.transit.map (TransitRecord.detachedFrom k) ∧
      u.table.totals = { f s.table.totals with issued := u.table.totals.issued } ∧
      (s.port (.lane k)).AnsweredByEvent (u.port (.lane k))
        (closeResponse i (s.table.serial + 1) l.firmCredit l.firmCount 0 false).frame
        (({ s.port (.lane k) with notices := n } : LinkPort).noticed l.parkPending).notices ∧
      u.bins = m.bins ∧ u.merge = m.merge := by
  subst hlane
  obtain ⟨_, hcloses⟩ := h
  obtain ⟨⟨hlane, hlanes, hpos, hzero⟩, htransit, hanswers, _, hframe⟩ :=
    hcloses i hst hcount hslot (by rw [hport]; exact hend)
  obtain ⟨hredeemed, hvoided, hpaid⟩ := hkept
  rw [hport] at hanswers
  rw [htable] at hlane hpos hzero hanswers hframe
  refine ⟨⟨hlane, fun j hj => (hlanes j hj).trans (hothers j hj), fun hamount => ?_, fun hamount => ?_⟩, htransit, ?_,
    hanswers.of_notices, (congrArg State.bins hframe :), (congrArg State.merge hframe :)⟩
  · obtain ⟨hslot, hslots, hrest, hsum⟩ := hpos hamount
    rw [hissued] at hsum
    refine ⟨hslot, hslots, ?_, hsum⟩
    rw [hredeemed, hvoided, hpaid] at hrest
    exact hrest
  · obtain ⟨hrest, hsum⟩ := hzero hamount
    exact ⟨hrest, hsum.trans hissued⟩
  · exact (congrArg (fun t : State => t.table.totals) hframe :)

theorem LinkPort.noticed_eq (p : LinkPort) (changed : Bool) :
    p.noticed changed = { p with notices := (p.noticed changed).notices } := by
  unfold LinkPort.noticed
  split <;> rfl

/-- A STATE notice of held and one of the lane's own are one notice (R56, R57). -/
theorem LinkPort.noticed_noticed (p : LinkPort) (a b : Bool) :
    (({ p with notices := (p.noticed a).notices } : LinkPort).noticed b).notices = (p.noticed (a || b)).notices := by
  cases a <;> cases b <;> rfl

/-- The session that a match ends is closed as an ordinary close, with the deposit firm (R45, R50). -/
theorem State.matchHead_closes {s : State} {r : TransitRecord} {rest : List TransitRecord} {i : SlotId}
    (hattached : r.attached = true) (hst : (s.lane r.lane).state = .settling) (hslot : (s.lane r.lane).slot = some i)
    (hlast : (s.lane r.lane).transitCount = 1) (hend : (s.port (.lane r.lane)).inFlight = some .endSession) :
    s.SessionClosed (s.matchHead r rest) r.lane i ((s.lane r.lane).firmCredit + r.deposit) ((s.lane r.lane).firmCount + 1) 0 false
        (s.lane r.lane).parkPending ∧
      (s.matchHead r rest).transit = rest.map (TransitRecord.detachedFrom r.lane) ∧
      (s.matchHead r rest).table.totals = { s.table.totals with
        issued := (s.matchHead r rest).table.totals.issued, confirmed := min (s.table.totals.confirmed + 1) 4294967295 } ∧
      (s.port (.lane r.lane)).AnsweredByEvent ((s.matchHead r rest).port (.lane r.lane))
        (closeResponse i (s.table.serial + 1) ((s.lane r.lane).firmCredit + r.deposit) ((s.lane r.lane).firmCount + 1) 0
          false).frame
        ((s.port (.lane r.lane)).noticed
          ((s.matchHead r rest).merge.held != s.merge.held || (s.lane r.lane).parkPending)).notices := by
  obtain ⟨⟨htransit, _⟩, _, _, htable, hlane, hport, _⟩ := s.headFirm_matched r rest
  have hends := s.matchHead_ends r rest
  rw [State.EndsSessionOf, if_pos hattached] at hends
  have hown := hlane r.lane
  rw [if_pos ⟨hattached, rfl⟩] at hown
  obtain ⟨hclosed, hqueue, htotals, hanswers, _, hmerge⟩ := hends.closes (f := Totals.countConfirmed) hown
    (fun j hj => by rw [hlane, if_neg fun h => hj h.2.symm]) htable rfl ⟨rfl, rfl, rfl⟩
    ((hport r.lane).trans (LinkPort.noticed_eq _ _)) hst (by rw [hlast]) hslot hend
  rw [htransit] at hqueue
  rw [LinkPort.noticed_noticed, ← hmerge] at hanswers
  exact ⟨hclosed, hqueue, htotals, hanswers⟩

/-- The session that a missing declaration ends is closed as an ordinary close, with the CREDIT notice set (R46, R50). -/
theorem State.missHead_closes {s : State} {r : TransitRecord} {rest : List TransitRecord} {i : SlotId}
    (hattached : r.attached = true) (hst : (s.lane r.lane).state = .settling) (hslot : (s.lane r.lane).slot = some i)
    (hlast : (s.lane r.lane).transitCount = 1) (hend : (s.port (.lane r.lane)).inFlight = some .endSession) :
    s.SessionClosed (s.missHead r rest) r.lane i (s.lane r.lane).firmCredit (s.lane r.lane).firmCount 0 false
        (s.lane r.lane).parkPending ∧
      (s.missHead r rest).transit = rest.map (TransitRecord.detachedFrom r.lane) ∧
      (s.missHead r rest).table.totals = { s.table.totals with
        issued := (s.missHead r rest).table.totals.issued, missing := min (s.table.totals.missing + 1) 4294967295 } ∧
      (s.port (.lane r.lane)).AnsweredByEvent ((s.missHead r rest).port (.lane r.lane))
        (closeResponse i (s.table.serial + 1) (s.lane r.lane).firmCredit (s.lane r.lane).firmCount 0 false).frame
        { ((s.port (.lane r.lane)).noticed
          ((s.missHead r rest).merge.held != s.merge.held || (s.lane r.lane).parkPending)).notices with credit := true } ∧
      (s.missHead r rest).bin r.bin = { s.bin r.bin with
        reserved := (s.bin r.bin).reserved - r.volume
        state := (s.bin r.bin).drained ((s.bin r.bin).reserved - r.volume) } ∧
      ∀ b, b ≠ r.bin → (s.missHead r rest).bin b = s.bin b := by
  obtain ⟨⟨htransit, hothers, _⟩, hbin, htable, hlane, hport, _⟩ := s.headLost_missed r rest
  have hends := s.missHead_ends r rest
  rw [State.EndsSessionOf, if_pos hattached] at hends
  have hown := hlane r.lane
  rw [if_pos ⟨hattached, rfl⟩] at hown
  have hlink := hport r.lane
  rw [if_pos ⟨hattached, rfl⟩] at hlink
  rw [if_pos hattached] at htable
  obtain ⟨hclosed, hqueue, htotals, hanswers, hbins, hmerge⟩ := hends.closes (f := Totals.countMissing) hown
    (fun j hj => by rw [hlane, if_neg fun h => hj h.2.symm]) htable rfl ⟨rfl, rfl, rfl⟩
    (hlink.trans (by rw [LinkPort.noticed_eq])) hst (by rw [hlast]) hslot hend
  have hnotices : ∀ a b : Bool, (({ s.port (.lane r.lane) with
      notices := { ((s.port (.lane r.lane)).noticed a).notices with credit := true } } : LinkPort).noticed b).notices =
      { ((s.port (.lane r.lane)).noticed (a || b)).notices with credit := true } := by
    intro a b
    cases a <;> cases b <;> rfl
  have hsame : ∀ b, (s.missHead r rest).bin b = (s.headLost r rest).bin b := fun b => by rw [State.bin, hbins, ← State.bin]
  rw [htransit] at hqueue
  rw [hnotices, ← hmerge] at hanswers
  exact ⟨hclosed, hqueue, htotals, hanswers, (hsame _).trans hbin, fun b hb => (hsame b).trans (hothers b hb)⟩

/-- Settles O22: the limit close (`State.closeWith_closed`), and the ordinary closes that a match and a missing declaration
cause (`State.matchHead_closes`, `State.missHead_closes`). -/
theorem settlingSessionCloses : Obligations.SettlingSessionCloses := by
  intro s k hup
  have hexpiry := exec_settleTimerExpiry hup k
  refine ⟨fun hne => ?_, fun hnot => ?_, fun i hst hslot hend => ⟨fun hlimit => ?_, fun r rest hhead hattached hlane hlast =>
    ⟨fun heye hlow hhigh => ?_, fun hclaims hwatch hdue order => ?_⟩⟩⟩
  · rw [hexpiry, State.expireSettle, if_neg hne, ite_self]
  · rw [State.atLimit_settle] at hnot
    rw [hexpiry, if_neg hnot]
  · rw [State.atLimit_settle] at hlimit
    rw [if_pos hlimit, State.expireSettle_of_settling hst, State.limitClose_eq] at hexpiry
    have hclosed := s.closeWith_closed k (s.lane k).transitCredit (s.lane k).transitCount false hslot
    have hanswers := s.closeWith_answers k (s.lane k).transitCredit (s.lane k).transitCount false hslot hend
    rw [Bool.or_false] at hclosed hanswers
    refine ⟨_, hexpiry, hclosed, ?_, hanswers, fun l hl => s.closeWith_port_ne k _ _ _ hl, ?_⟩
    · rw [State.closeWith_transit, detachAll_eq]
    · rw [← State.closeWith_totals]
      exact s.closeWith_frame k _ _ _
  · subst hlane
    refine ⟨_, ?_, State.matchHead_closes (s := s.atEdge) hattached hst hslot hlast hend⟩
    rw [exec_leadingEdge_none hup heye, State.decideEdge_of_inWindow (s := s.atEdge) hhead hlow hhigh]
  · subst hlane
    refine ⟨_, ?_, State.missHead_closes (s := s.advanced) hattached hst hslot hlast hend⟩
    rw [exec_encoderPulse hup, State.pulse_of_missing hwatch hclaims hhead hdue]

end Sys2Proof.Machine
end

section
/-! Grants (R42, R64, R67, R75, R76, R78, R104, R105). -/

namespace Sys2Proof.Machine

/-- A record is inserted between those that are nearer and the first that is not (R78). -/
theorem insertByDue_split (e : Count) (r : TransitRecord) (q : List TransitRecord) :
    ∃ pre post, q = pre ++ post ∧ insertByDue e r q = pre ++ r :: post ∧
      (∀ x ∈ pre, signedDistance e x.due < signedDistance e r.due) ∧
      ∀ x rest, post = x :: rest → signedDistance e r.due ≤ signedDistance e x.due := by
  induction q with
  | nil => exact ⟨[], [], rfl, rfl, by simp, by simp⟩
  | cons x rest ih =>
    rw [insertByDue_cons]
    split
    next hnear =>
      obtain ⟨pre, post, hsplit, hinsert, hpre, hpost⟩ := ih
      refine ⟨x :: pre, post, congrArg (x :: ·) hsplit, congrArg (x :: ·) hinsert, fun y hy => ?_, hpost⟩
      obtain rfl | hy := List.mem_cons.mp hy
      · exact hnear
      · exact hpre y hy
    next hfar =>
      refine ⟨[], x :: rest, rfl, rfl, by simp, fun y rest' h => ?_⟩
      obtain ⟨rfl, -⟩ := List.cons_eq_cons.mp h
      exact not_lt.mp hfar

/-! ### The steps of a grant before its response -/

/-- A grant up to its response (R75). -/
def State.granting (s : State) (c : Claim) (b : BinId) : State :=
  (((s.dropClaim c.lane).insertRecord (s.grantedRecord c b)).reserve b (s.grantedRecord c b).volume).creditTransit c.lane c.deposit

section
variable (s : State) (c : Claim) (b : BinId)

theorem State.grant_answers :
    s.grant c b = (s.granting c b).answer (.lane c.lane) ((s.granting c b).grantResponse c (s.grantedRecord c b)) := rfl

/-- The claim is gone, merge-hold is evaluated on the new occupancy, and held is formed again (R64). -/
theorem State.granting_merge :
    (s.granting c b).merge =
      { claims := s.merge.claims.filter fun d => d.lane ≠ c.lane
        mergeHold := s.merge.mergeHold || decide (s.corner.holdMark ≤ s.transit.length + 1)
        held := (s.granting c b).heldCauses } := by
  have hcauses : (s.granting c b).heldCauses = ((s.dropClaim c.lane).insertRecord (s.grantedRecord c b)).heldCauses := by
    refine State.heldCauses_congr ?_ ?_ ?_ ?_ <;> simp [State.granting]
  rw [hcauses]
  have hmerge : (s.granting c b).merge = ((s.dropClaim c.lane).insertRecord (s.grantedRecord c b)).merge := by
    simp [State.granting]
  rw [hmerge]
  simp [State.insertRecord, State.holdAfterInsertion, State.occupancy, (insertByDue_perm _ _ _).length_eq, beq_eq_decide]

theorem State.granting_bin (a : BinId) : (s.granting c b).bin a = (s.grant c b).bin a := rfl

theorem State.granting_noticed (k : LaneId) :
    (s.granting c b).port (.lane k) = (s.port (.lane k)).noticed ((s.granting c b).merge.held != s.merge.held) := by
  have hmerge : (s.granting c b).merge = ((s.dropClaim c.lane).insertRecord (s.grantedRecord c b)).merge := by
    simp [State.granting]
  have hport : (s.granting c b).port (.lane k) =
      ((s.dropClaim c.lane).insertRecord (s.grantedRecord c b)).port (.lane k) := by
    simp [State.granting, State.creditTransit, State.reserve, State.warnTest_port]
  rw [hport, hmerge]
  exact State.reformHeld_noticed _ k

/-- The BIN notice is set where WARN becomes yes (R105). -/
theorem State.granting_port_office :
    (s.granting c b).port .office =
      if ((s.granting c b).bin b).warn = (s.bin b).warn then s.port .office
      else { s.port .office with notices := { (s.port .office).notices with bin := true } } := by
  rw [State.granting_bin, State.grant_bin, if_pos rfl]
  have hport : (s.granting c b).port .office =
      if (s.bin b).warn = false ∧ (s.bin b).warningMark ≤ (s.bin b).confirmed + ((s.bin b).reserved +
          compactedVolume c.volume (s.bin b).ratio) then
        { s.port .office with notices := { (s.port .office).notices with bin := true } }
      else s.port .office := by
    simp [State.granting, State.creditTransit, State.reserve, State.warnTest_port, State.grantedRecord, Bin.sum]
  rw [hport]
  cases (s.bin b).warn with
  | true => simp
  | false =>
    by_cases hmark : (s.bin b).warningMark ≤ (s.bin b).confirmed + (s.bin b).reserved + compactedVolume c.volume (s.bin b).ratio <;>
      simp [hmark, ← Nat.add_assoc]

/-- What a grant leaves alone. -/
theorem State.grant_frame :
    s.grant c b = { s with
      ports := (s.grant c b).ports, lanes := (s.grant c b).lanes, merge := (s.grant c b).merge
      transit := (s.grant c b).transit, bins := (s.grant c b).bins } := by
  apply State.ext_fields <;> simp

/-- The CONTAINER of the claim is answered GRANT, with the figures after the grant (R42, R76). -/
theorem State.grant_response :
    (s.granting c b).grantResponse c (s.grantedRecord c b) =
      .grant (b.val + 1) (s.grantedRecord c b).due c.cls c.deposit (s.lane c.lane).firmCredit
        ((s.lane c.lane).transitCredit + c.deposit) := by
  have hclaim : (s.granting c b).claimOf c.lane = none := by
    exact (State.claimOf_of_filter (s := s) (t := s.granting c b) (s.grant_claims c b) c.lane).trans (if_pos rfl)
  have hlane : (s.granting c b).lane c.lane =
      { s.lane c.lane with
        transitCredit := (s.lane c.lane).transitCredit + c.deposit
        transitCount := (s.lane c.lane).transitCount + 1 } := by
    have := s.grant_lane c b c.lane
    rwa [if_pos rfl] at this
  simp only [State.grantResponse, State.provisionalCredit, hclaim, hlane, Option.map_none, Option.getD_none, Nat.add_zero]
  rfl

end

/-- Settles O36: the record's place (`insertByDue_split`), the steps before the response (`State.granting`), and the response
(`State.grant_response`). -/
theorem grantFormsRecord : Obligations.GrantFormsRecord := by
  intro s c b r hr
  obtain rfl : r = s.grantedRecord c b := hr
  obtain ⟨pre, post, hsplit, hinsert, hpre, hpost⟩ := insertByDue_split s.belt.count (s.grantedRecord c b) s.transit
  have hother : ∀ l, l ≠ .lane c.lane → (s.grant c b).port l = (s.granting c b).port l := fun l hl => by
    rw [State.grant_answers]
    exact State.port_setPort_ne _ hl _
  refine ⟨_, pre, post, rfl, hsplit, (s.grant_transit c b).trans hinsert, hpre, hpost, s.granting_merge c b, ?_, fun a ha => ?_, ?_,
    fun j hj => ?_, ?_, fun j hj => ?_, s.grant_port_checkout c b, ?_, s.grant_frame c b⟩
  · rw [State.grant_bin, if_pos rfl]
    rfl
  · rw [State.grant_bin, if_neg ha]
  · rw [State.grant_lane, if_pos rfl]
  · rw [State.grant_lane, if_neg hj]
  · have hself := LinkPort.answeredByEvent_enqueue ((s.granting c b).port (.lane c.lane))
      ((s.granting c b).grantResponse c (s.grantedRecord c b)).frame
    have hport : (s.grant c b).port (.lane c.lane) = { ((s.granting c b).port (.lane c.lane)).enqueue
        ((s.granting c b).grantResponse c (s.grantedRecord c b)).frame with inFlight := none } := by
      rw [State.grant_answers]
      exact State.port_setPort_self _ _ _
    rw [← hport, State.grant_response, State.granting_noticed, LinkPort.noticed_eq] at hself
    exact hself.of_notices
  · rw [hother _ (by simpa using hj)]
    exact s.granting_noticed c b j
  · rw [hother _ (by simp)]
    exact s.granting_port_office c b

end Sys2Proof.Machine
end

section
/-! The successful apply of a plan (R139): the lanes, the bins, the WARN tests, and the evaluations that follow. -/

namespace Sys2Proof.Machine

/-! ### Folds that visit each member once -/

/-- A fold over distinct members in which each step writes its own part: the part of a member is written once, from what the
fold found there. -/
theorem foldl_visits {K V : Type} [DecidableEq K] {P : State → Prop} {f : State → K → State} {part : State → K → V}
    {g : K → V → V} (hkeeps : ∀ t k, P t → P (f t k)) (hself : ∀ t k, P t → part (f t k) k = g k (part t k))
    (hother : ∀ t k j, P t → j ≠ k → part (f t k) j = part t j) {ks : List K} (hnodup : ks.Nodup) {s : State} (hs : P s) (j : K) :
    part (ks.foldl f s) j = if j ∈ ks then g j (part s j) else part s j := by
  induction ks generalizing s with
  | nil => rfl
  | cons k rest ih =>
    obtain ⟨hfresh, hrest⟩ := List.nodup_cons.mp hnodup
    rw [List.foldl_cons, ih hrest (hkeeps s k hs)]
    by_cases hj : j = k
    · subst hj
      rw [if_neg hfresh, if_pos (by simp), hself s j hs]
    · rw [hother s k j hs hj]
      simp [hj]

theorem mem_laneIds (k : LaneId) : k ∈ laneIds := by revert k; decide

/-! ### The lanes (R55, R57) -/

/-- Whether an apply changes a lane's state or park-pending (R57). -/
def Lane.changedBy (l : Lane) (mode : LaneMode) : Bool :=
  (l.atApply mode).state != l.state || (l.atApply mode).parkPending != l.parkPending

theorem Lane.changedBy_eq_false {l : Lane} {mode : LaneMode} :
    l.changedBy mode = false ↔ (l.atApply mode).state = l.state ∧ (l.atApply mode).parkPending = l.parkPending := by
  simp [Lane.changedBy]

theorem State.applyLane_own (s : State) (k : LaneId) :
    ((s.applyLane k).lane k, (s.applyLane k).port (.lane k)) =
      ((s.lane k).atApply (s.lanePart k).mode, (s.port (.lane k)).noticed ((s.lane k).changedBy (s.lanePart k).mode)) := by
  cases hchanged : (s.lane k).changedBy (s.lanePart k).mode with
  | false =>
    have hsame := Lane.changedBy_eq_false.mp hchanged
    simp [State.applyLane, hsame, LinkPort.noticed]
  | true =>
    have hdiffers : ¬ (((s.lane k).atApply (s.lanePart k).mode).state = (s.lane k).state ∧
        ((s.lane k).atApply (s.lanePart k).mode).parkPending = (s.lane k).parkPending) := fun hsame => by
      rw [Lane.changedBy_eq_false.mpr hsame] at hchanged
      cases hchanged
    simp only [State.applyLane, if_neg hdiffers]
    simp [LinkPort.noticed, Notices.set]

theorem State.applyLane_other (s : State) {j k : LaneId} (h : j ≠ k) :
    ((s.applyLane k).lane j, (s.applyLane k).port (.lane j)) = (s.lane j, s.port (.lane j)) := by
  simp only [State.applyLane]
  split <;> simp [h]

theorem State.applyLane_port_checkout (s : State) (k : LaneId) : (s.applyLane k).port .checkout = s.port .checkout := by
  simp only [State.applyLane]
  split <;> simp

/-- Between `s` and `t` only links, lanes and bins changed. -/
def State.PartsTouched (s t : State) : Prop := t = { s with ports := t.ports, lanes := t.lanes, bins := t.bins }

theorem State.PartsTouched.trans {s t u : State} (h : s.PartsTouched t) (h' : t.PartsTouched u) : s.PartsTouched u := by
  refine Eq.trans h' ?_
  rw [h]

theorem State.partsTouched_applyLane (s : State) (k : LaneId) : s.PartsTouched (s.applyLane k) := by
  simp only [State.PartsTouched, State.applyLane]
  split <;> rfl

theorem State.partsTouched_applyBin (s : State) (b : BinId) : s.PartsTouched (s.applyBin b) := rfl

theorem State.partsTouched_warnTest (s : State) (b : BinId) : s.PartsTouched (s.warnTest b) := by
  apply State.ext_fields <;> simp

/-- The lanes of an apply, from the state with the new plan: each by its mode, its link told where it changes. -/
theorem State.foldl_applyLane (s : State) (k : LaneId) :
    (laneIds.foldl State.applyLane s).lane k = (s.lane k).atApply (s.lanePart k).mode ∧
      (laneIds.foldl State.applyLane s).port (.lane k) =
        (s.port (.lane k)).noticed ((s.lane k).changedBy (s.lanePart k).mode) := by
  have h := foldl_visits (P := fun t => t.plans = s.plans)
    (part := fun t k => (t.lane k, t.port (.lane k))) (f := State.applyLane)
    (g := fun k x => (x.1.atApply (s.lanePart k).mode, x.2.noticed (x.1.changedBy (s.lanePart k).mode)))
    (fun t k ht => (t.applyLane_plans k).trans ht)
    (fun t k ht => by rw [t.applyLane_own k, State.lanePart, ht, ← State.lanePart])
    (fun t k j _ hj => t.applyLane_other hj) (ks := laneIds) (by decide) (s := s) rfl k
  rw [if_pos (mem_laneIds k)] at h
  exact Prod.mk.inj h

/-! ### The bins (R106, R140) -/

/-- A bin at an apply: the new parameters and the state by the new service. -/
def Bin.atApply (r : Bin) (p : BinPart) : Bin :=
  { r with state := r.stateAtApply p.service, material := p.material, capacity := p.capacity, ratio := p.ratio
           warningMark := p.warningMark }

/-- The WARN test of a bin (R105). -/
def Bin.warned (r : Bin) : Bin := { r with warn := r.warn || decide (r.warningMark ≤ r.sum) }

theorem State.foldl_applyBin (s : State) (b : BinId) :
    (binIds.foldl State.applyBin s).bin b = (s.bin b).atApply (s.binPart b) := by
  have h := foldl_visits (P := fun t => t.plans = s.plans) (part := State.bin) (f := State.applyBin)
    (g := fun b r => r.atApply (s.binPart b)) (fun t b ht => ht)
    (fun t b ht => by
      rw [State.applyBin, State.bin_setBin_self, State.binPart, ht, ← State.binPart]
      rfl)
    (fun t b a _ ha => State.bin_setBin_ne _ ha _) (ks := binIds) (by decide) (s := s) rfl b
  rwa [if_pos (mem_binIds b)] at h

theorem State.foldl_warnTest_bin (s : State) (b : BinId) : (binIds.foldl State.warnTest s).bin b = (s.bin b).warned := by
  have h := foldl_visits (P := fun _ => True) (part := State.bin) (f := State.warnTest) (g := fun _ => Bin.warned)
    (fun _ _ _ => trivial) (fun t b _ => (t.warnTest_bin b b).trans (if_pos rfl))
    (fun t b a _ ha => (t.warnTest_bin b a).trans (if_neg ha)) (ks := binIds) (by decide) (s := s) trivial b
  rwa [if_pos (mem_binIds b)] at h

/-- The office link with its BIN notice set where `changed` holds (R105, R114). -/
def LinkPort.binNoticed (p : LinkPort) (changed : Bool) : LinkPort :=
  { p with notices := { p.notices with bin := p.notices.bin || changed } }

theorem State.warnTest_port_office (s : State) (b : BinId) :
    (s.warnTest b).port .office = (s.port .office).binNoticed ((s.bin b).warned.warn != (s.bin b).warn) := by
  rw [State.warnTest_port, LinkPort.binNoticed, Bin.warned]
  cases hwarn : (s.bin b).warn <;> by_cases hmark : (s.bin b).warningMark ≤ (s.bin b).sum <;> simp [hmark]

/-- The BIN notice is set where WARN becomes yes on any bin that is tested (R105). -/
theorem State.foldl_warnTest_port_office (bs : List BinId) (hnodup : bs.Nodup) (s : State) :
    (bs.foldl State.warnTest s).port .office =
      (s.port .office).binNoticed (bs.any fun b => (s.bin b).warned.warn != (s.bin b).warn) := by
  induction bs generalizing s with
  | nil => simp [LinkPort.binNoticed]
  | cons b rest ih =>
    obtain ⟨hfresh, hrest⟩ := List.nodup_cons.mp hnodup
    have hsame : (rest.any fun a => ((s.warnTest b).bin a).warned.warn != ((s.warnTest b).bin a).warn) =
        rest.any fun a => (s.bin a).warned.warn != (s.bin a).warn := by
      rw [Bool.eq_iff_iff, List.any_eq_true, List.any_eq_true]
      refine exists_congr fun a => and_congr_right fun ha => ?_
      rw [State.warnTest_bin, if_neg (ne_of_mem_of_not_mem ha hfresh)]
    rw [List.foldl_cons, ih hrest, hsame, State.warnTest_port_office, List.any_cons]
    simp [LinkPort.binNoticed, Bool.or_assoc]

/-! ### The parts of an apply -/

/-- The staged plan as the active one. -/
def State.planTaken (s : State) : State := { s with plans := { s.plans with active := s.plans.staged } }

theorem State.appliedParts_eq (s : State) :
    s.appliedParts = binIds.foldl State.warnTest (binIds.foldl State.applyBin (laneIds.foldl State.applyLane s.planTaken)) := rfl

theorem State.partsTouched_appliedParts (s : State) : s.planTaken.PartsTouched s.appliedParts :=
  State.appliedParts_keeps (P := s.planTaken.PartsTouched) rfl (fun t k ht => ht.trans (t.partsTouched_applyLane k))
    (fun t b ht => ht.trans (t.partsTouched_applyBin b)) fun t b ht => ht.trans (t.partsTouched_warnTest b)

theorem State.appliedParts_port_checkout (s : State) : s.appliedParts.port .checkout = s.port .checkout :=
  State.appliedParts_keeps (P := fun t => t.port .checkout = s.port .checkout) rfl
    (fun t k ht => (t.applyLane_port_checkout k).trans ht) (fun _ _ ht => ht) fun t b ht => by simpa using ht

/-- The bins' part of an apply touches no lane and no lane link. -/
theorem State.foldl_bins_lane (s : State) (k : LaneId) :
    (binIds.foldl State.warnTest (binIds.foldl State.applyBin s)).lane k = s.lane k ∧
      (binIds.foldl State.warnTest (binIds.foldl State.applyBin s)).port (.lane k) = s.port (.lane k) := by
  refine List.foldlRecOn (motive := fun t : State => t.lane k = s.lane k ∧ t.port (.lane k) = s.port (.lane k)) binIds
    State.warnTest (List.foldlRecOn (motive := fun t : State => t.lane k = s.lane k ∧ t.port (.lane k) = s.port (.lane k)) binIds
      State.applyBin ⟨rfl, rfl⟩ fun t ht _ _ => ht) fun t ⟨hlane, hport⟩ b _ => ⟨?_, ?_⟩
  · simpa using hlane
  · rw [State.warnTest_port, if_neg (by simp)]
    exact hport

theorem State.appliedParts_lane (s : State) (k : LaneId) :
    s.appliedParts.lane k = (s.lane k).atApply s.plans.staged.lanes[k].mode ∧
      s.appliedParts.port (.lane k) = (s.port (.lane k)).noticed ((s.lane k).changedBy s.plans.staged.lanes[k].mode) := by
  obtain ⟨hlane, hport⟩ := s.planTaken.foldl_applyLane k
  obtain ⟨hlane', hport'⟩ := State.foldl_bins_lane (laneIds.foldl State.applyLane s.planTaken) k
  rw [State.appliedParts_eq]
  exact ⟨hlane'.trans hlane, hport'.trans hport⟩

/-- The lanes' part of an apply touches no bin, no plan, and no other link. -/
theorem State.foldl_lanes_bin (s : State) :
    (laneIds.foldl State.applyLane s).bins = s.bins ∧ (laneIds.foldl State.applyLane s).plans = s.plans ∧
      (laneIds.foldl State.applyLane s).port .office = s.port .office := by
  refine foldl_lanes_keeps (P := fun t => t.bins = s.bins ∧ t.plans = s.plans ∧ t.port .office = s.port .office)
    (fun t k ⟨hbins, hplans, hport⟩ => ⟨?_, ?_, ?_⟩) ⟨rfl, rfl, rfl⟩ laneIds
  · rw [State.applyLane_bins, hbins]
  · rw [State.applyLane_plans, hplans]
  · rw [State.applyLane_port_office, hport]

/-- The bins of an apply before its WARN tests. -/
theorem State.foldl_applyBin_planTaken (s : State) (b : BinId) :
    (binIds.foldl State.applyBin (laneIds.foldl State.applyLane s.planTaken)).bin b =
      (s.bin b).atApply s.plans.staged.bins[b] := by
  obtain ⟨hbins, hplans, _⟩ := s.planTaken.foldl_lanes_bin
  rw [State.foldl_applyBin, State.bin, State.binPart, hbins, hplans]
  rfl

theorem State.appliedParts_bin (s : State) (b : BinId) :
    s.appliedParts.bin b = ((s.bin b).atApply s.plans.staged.bins[b]).warned := by
  rw [State.appliedParts_eq, State.foldl_warnTest_bin, State.foldl_applyBin_planTaken]

theorem State.appliedParts_port_office (s : State) :
    s.appliedParts.port .office =
      (s.port .office).binNoticed (binIds.any fun b => (s.appliedParts.bin b).warn != (s.bin b).warn) := by
  have hport : (binIds.foldl State.applyBin (laneIds.foldl State.applyLane s.planTaken)).port .office = s.port .office :=
    List.foldlRecOn (motive := fun t : State => t.port .office = s.port .office) binIds State.applyBin
      s.planTaken.foldl_lanes_bin.2.2 fun t ht _ _ => ht
  have hany : (binIds.any fun b => (s.appliedParts.bin b).warn != (s.bin b).warn) =
      binIds.any fun b => ((s.bin b).atApply s.plans.staged.bins[b]).warned.warn !=
        ((s.bin b).atApply s.plans.staged.bins[b]).warn := by
    simp only [State.appliedParts_bin]
    rfl
  rw [hany, State.appliedParts_eq, State.foldl_warnTest_port_office binIds (by decide), hport]
  simp only [State.foldl_applyBin_planTaken]

/-! ### The evaluations (R63, R65, R112) -/

section
variable (s : State)

@[simp] theorem State.reevaluated_lane (k : LaneId) : s.reevaluated.lane k = s.lane k := by simp [State.reevaluated]
@[simp] theorem State.reevaluated_bin (b : BinId) : s.reevaluated.bin b = s.bin b := by simp [State.reevaluated]
@[simp] theorem State.reevaluated_port_checkout : s.reevaluated.port .checkout = s.port .checkout := by
  simp [State.reevaluated]

theorem State.reevaluated_noticed (k : LaneId) :
    s.reevaluated.port (.lane k) = (s.port (.lane k)).noticed (s.reevaluated.merge.held != s.merge.held) :=
  State.reformHeld_noticed _ k

theorem State.reevaluated_frame :
    s.reevaluated = { s with ports := s.reevaluated.ports, merge := s.reevaluated.merge, reject := s.reevaluated.reject } := by
  apply State.ext_fields <;> simp [State.reevaluated]

theorem State.reevaluated_reject :
    s.reevaluated.reject = { s.reject with atLimit := decide (s.corner.rejectLimit ≤ s.reject.count) } :=
  (State.reformHeld_reject _).trans rfl

theorem State.reevaluated_merge :
    s.reevaluated.merge =
      { s.merge with mergeHold := s.reevaluated.merge.mergeHold, held := s.reevaluated.heldCauses } := by
  have hcauses : s.reevaluated.heldCauses = (s.evalAtLimit.setMergeHold s.evalAtLimit.holdAtApply).heldCauses :=
    State.reformHeld_heldCauses _
  rw [hcauses, State.reevaluated, State.reformHeld_merge]
  rfl

end

/-! ### The pass and the response -/

/-- A pass receives nothing on the office link (R72). -/
theorem State.mergePass_receiver_office (s : State) :
    (s.mergePass.port .office).receiver = (s.port .office).receiver := by
  refine List.foldlRecOn (motive := fun t : State => (t.port .office).receiver = (s.port .office).receiver) _ State.decideClaim
    rfl fun t ht c _ => ?_
  obtain hd | ⟨b, _, _, hd⟩ | hd := t.decideClaim_cases c <;> rw [hd]
  · exact ht
  · have hport : (t.grant c b).port .office = (t.granting c b).port .office := by
      rw [State.grant_answers]
      exact State.port_setPort_ne _ (by simp) _
    rw [hport, State.granting_port_office]
    split
    · exact ht
    · exact ht
  · rw [State.refuseClaim_port_ne _ _ (by simp)]
    exact ht

/-- A response on an idle office link. -/
theorem State.onlyAnswers_respond_idle {s : State} (h : (s.port .office).receiver = .idle) (r : Response) :
    s.OnlyAnswers (s.respond .office r) .office r := by
  refine State.onlyAnswers_respond r (State.ports_ext fun l => ?_)
  by_cases hl : l = .office
  · subst hl
    rw [State.setReceiver_port_self, ← h]
  · rw [State.setReceiver_port_ne _ _ hl]

theorem takePlanApply_taken {s : State} (h : firstFailing s.planChecks = none) :
    takePlanApply s = s.applyPlan.respondOffice s.applyPlan.appliedResponse := by
  unfold takePlanApply
  generalize firstFailing s.planChecks = failing at h
  subst h
  rfl

open Classical in
/-- With the seven checks passed no check fails (R138). -/
theorem State.firstFailing_of_planChecks {s : State} (h : ∀ m, 1 ≤ m → m ≤ 7 → s.PlanCheck m) :
    firstFailing s.planChecks = none := by
  rw [firstFailing_eq_none_iff, State.planChecks_eq]
  intro b hb
  obtain ⟨m, hm, rfl⟩ := List.mem_map.mp hb
  have hrange : 1 ≤ m ∧ m ≤ 7 := by
    simp only [List.mem_cons, List.not_mem_nil, or_false] at hm
    omega
  exact decide_eq_true (h m hrange.1 hrange.2)

/-- The state of an apply before its pass (R139 steps 1 to 5). -/
def State.planApplied (s : State) : State := s.asked.appliedParts.reevaluated

theorem exec_planApply_taken {s : State} (htakes : s.Takes .office .planApply)
    (hchecks : ∀ m, 1 ≤ m → m ≤ 7 → s.PlanCheck m) :
    exec .planApply s = .next (s.planApplied.mergePass.respond .office s.planApplied.mergePass.appliedResponse) := by
  have hnone : firstFailing s.asked.planChecks = none := State.firstFailing_of_planChecks (s := s) hchecks
  rw [exec_planApply htakes, takePlanApply_taken hnone, State.applyPlan_eq]
  rfl

theorem State.planApplied_lane (s : State) (k : LaneId) :
    s.planApplied.lane k = (s.lane k).atApply s.plans.staged.lanes[k].mode := by
  rw [State.planApplied, State.reevaluated_lane]
  exact (s.asked.appliedParts_lane k).1

theorem State.planApplied_bin (s : State) (b : BinId) :
    s.planApplied.bin b = ((s.bin b).atApply s.plans.staged.bins[b]).warned := by
  rw [State.planApplied, State.reevaluated_bin]
  exact s.asked.appliedParts_bin b

/-- The STATE notice of a lane comes of held and of the lane's own change (R56, R57). -/
theorem State.planApplied_noticed (s : State) (k : LaneId) :
    s.planApplied.port (.lane k) = (s.port (.lane k)).noticed
      (s.planApplied.merge.held != s.merge.held || (s.planApplied.lane k).state != (s.lane k).state ||
        (s.planApplied.lane k).parkPending != (s.lane k).parkPending) := by
  have hmerge : s.asked.appliedParts.merge = s.merge := s.asked.beltApplying_appliedParts.2.2.2
  have hchanged : ((s.planApplied.lane k).state != (s.lane k).state ||
      (s.planApplied.lane k).parkPending != (s.lane k).parkPending) =
      (s.lane k).changedBy s.plans.staged.lanes[k].mode := by
    rw [State.planApplied_lane]
    rfl
  have hport : s.asked.appliedParts.port (.lane k) = _ := (s.asked.appliedParts_lane k).2
  have hnoticed := s.asked.appliedParts.reevaluated_noticed k
  rw [Bool.or_assoc, hchanged, State.planApplied, hnoticed, hport, hmerge]
  generalize (s.asked.appliedParts.reevaluated.merge.held != s.merge.held) = held
  have hlink : s.asked.port (.lane k) = s.port (.lane k) := State.setReceiver_port_ne _ _ (by simp)
  have hlane : (s.asked.lane k).changedBy s.asked.plans.staged.lanes[k].mode =
      (s.lane k).changedBy s.plans.staged.lanes[k].mode := rfl
  rw [hlink, hlane]
  cases held <;> cases (s.lane k).changedBy s.plans.staged.lanes[k].mode <;> rfl

theorem State.planApplied_merge (s : State) :
    s.planApplied.merge = { s.merge with
      mergeHold := if s.merge.mergeHold then decide (s.plans.staged.corner.releaseMark < s.transit.length)
        else decide (s.plans.staged.corner.holdMark ≤ s.transit.length)
      held := s.planApplied.heldCauses } := by
  obtain ⟨hactive, htransit, _, hmerge⟩ := s.asked.beltApplying_appliedParts
  have hhold := s.asked.appliedParts.reevaluated_mergeHold
  have hparts := s.asked.appliedParts.reevaluated_merge
  rw [hhold, hmerge, htransit, hactive] at hparts
  rw [State.planApplied]
  refine hparts.trans ?_
  have hnot : ∀ a b : Nat, (!decide (a ≤ b)) = decide (b < a) := fun a b => by
    rw [Bool.eq_iff_iff]
    simp
  rw [hnot]
  rfl

/-- What the parts of an apply and its evaluations leave alone. -/
theorem State.PartsTouched.reevaluated {s t u : State} (h : s.PartsTouched t)
    (hframe : u = { t with ports := u.ports, merge := u.merge, reject := u.reject }) :
    u = { s with ports := u.ports, lanes := u.lanes, merge := u.merge, bins := u.bins, reject := u.reject } := by
  have hlanes : u.lanes = t.lanes := (congrArg State.lanes hframe :)
  have hbins : u.bins = t.bins := (congrArg State.bins hframe :)
  rw [hlanes, hbins]
  refine hframe.trans ?_
  rw [h]

theorem State.planApplied_frame (s : State) :
    s.planApplied = { s.asked.planTaken with
      ports := s.planApplied.ports, lanes := s.planApplied.lanes, merge := s.planApplied.merge
      bins := s.planApplied.bins, reject := s.planApplied.reject } :=
  s.asked.partsTouched_appliedParts.reevaluated s.asked.appliedParts.reevaluated_frame

theorem State.planApplied_port_office (s : State) :
    s.planApplied.port .office = ({ s.port .office with receiver := .idle } : LinkPort).binNoticed
      (binIds.any fun b => (s.planApplied.bin b).warn != (s.bin b).warn) := by
  have hlink : s.asked.port .office = { s.port .office with receiver := .idle } := State.setReceiver_port_self _ _ _
  have hbin : ∀ b, s.planApplied.bin b = s.asked.appliedParts.bin b := fun b => State.reevaluated_bin _ b
  simp only [hbin]
  rw [State.planApplied, State.reevaluated_port_office, State.appliedParts_port_office, hlink]
  rfl

theorem State.planApplied_port_checkout (s : State) : s.planApplied.port .checkout = s.port .checkout := by
  rw [State.planApplied, State.reevaluated_port_checkout, State.appliedParts_port_checkout]
  exact State.setReceiver_port_ne _ _ (by simp)

theorem State.planApplied_reject (s : State) :
    s.planApplied.reject = { s.reject with atLimit := decide (s.plans.staged.corner.rejectLimit ≤ s.reject.count) } := by
  have hparts := s.asked.partsTouched_appliedParts
  have hreject : s.asked.appliedParts.reject = s.reject := (congrArg State.reject hparts :)
  have hcorner : s.asked.appliedParts.corner = s.plans.staged.corner := (congrArg State.corner hparts :)
  rw [State.planApplied, State.reevaluated_reject, hreject, hcorner]

/-- Settles O50: the state before the pass (`State.planApplied`), the pass, and the response. -/
theorem planApplyTaken : Obligations.PlanApplyTaken := by
  intro s htakes hchecks
  have hexec := exec_planApply_taken htakes hchecks
  have hframe := s.planApplied_frame
  have hoffice := s.planApplied_port_office
  have hcheckout := s.planApplied_port_checkout
  have hreject := s.planApplied_reject
  have hmerge := s.planApplied_merge
  have hnoticed := s.planApplied_noticed
  have hlane := s.planApplied_lane
  have hbin := s.planApplied_bin
  generalize s.planApplied = u at *
  have hplans : u.plans = { staged := s.plans.staged, active := s.plans.staged } := congrArg State.plans hframe
  refine ⟨_, u, hexec, hplans, fun k => ?_, fun b => ?_, hreject, hmerge, hnoticed, hcheckout, ?_, ?_, ?_, ?_, rfl⟩
  · rw [hlane k]
    generalize s.lane k = l
    obtain ⟨state, slot, firmCredit, firmCount, transitCredit, transitCount, unconfirmedCredit, unconfirmedCount, parkPending,
      settle, lastClose⟩ := l
    cases state <;> cases s.plans.staged.lanes[k].mode <;> simp [Lane.atApply]
  · rw [hbin b]
    generalize s.plans.staged.bins[b] = p
    generalize s.bin b = r
    obtain ⟨state, material, capacity, ratio, warningMark, confirmed, reserved, items, warn⟩ := r
    obtain ⟨service, material', capacity', ratio', warningMark'⟩ := p
    cases state with
    | draining target => cases target <;> cases service <;> simp [Bin.warned, Bin.atApply, Bin.stateAtApply, Bin.sum] <;> rfl
    | out | serving | released => cases service <;> simp [Bin.warned, Bin.atApply, Bin.stateAtApply, Bin.sum] <;> rfl
  · rw [hoffice]
    rfl
  · rw [hoffice]
    rfl
  · rw [hplans]
    exact hframe
  · refine State.onlyAnswers_respond_idle ?_ _
    rw [State.mergePass_receiver_office, hoffice]
    rfl

end Sys2Proof.Machine
end

section
/-! The ends of several sessions, lane after lane, as the Voucher Table sees them (R117, R120, R148, R150). -/

namespace Sys2Proof.Machine

/-! ### Sessions ended one after another -/

/-- The table after the sessions of some lanes have ended, in the order of the list; lane `k` held slot `slot k` and its session
is worth the voucher `v k`. -/
def VoucherTable.settleAll (slot : LaneId → Option SlotId) (v : LaneId → Voucher) (ks : List LaneId) (t : VoucherTable) :
    VoucherTable := ks.foldl (fun t k => t.settleHeld (slot k) (v k)) t

/-- The lanes whose session ends in a voucher. -/
def payingAmong (slot : LaneId → Option SlotId) (v : LaneId → Voucher) (ks : List LaneId) : List LaneId :=
  ks.filter fun k => (slot k).isSome && decide (0 < (v k).amount)

/-- The lanes whose session ends without one. -/
def emptyAmong (v : LaneId → Voucher) (ks : List LaneId) : List LaneId := ks.filter fun k => decide ((v k).amount = 0)

namespace VoucherTable

variable {slot : LaneId → Option SlotId} {v : LaneId → Voucher}

theorem settleAll_append (ks js : List LaneId) (t : VoucherTable) :
    t.settleAll slot v (ks ++ js) = (t.settleAll slot v ks).settleAll slot v js := List.foldl_append

theorem settleAll_congr {slot' : LaneId → Option SlotId} {v' : LaneId → Voucher} {ks : List LaneId}
    (h : ∀ k ∈ ks, slot k = slot' k ∧ v k = v' k) (t : VoucherTable) : t.settleAll slot v ks = t.settleAll slot' v' ks := by
  refine List.foldl_ext _ _ _ fun u k hk => ?_
  rw [(h k hk).1, (h k hk).2]

theorem settleHeld_pays {t : VoucherTable} {i : SlotId} {x : Voucher} (h : 0 < x.amount) :
    t.settleHeld (some i) x = t.issue i x := if_pos h

theorem settleHeld_pushes {t : VoucherTable} {i : SlotId} {x : Voucher} (h : x.amount = 0) :
    t.settleHeld (some i) x = t.push i := if_neg (by omega)

/-- The serial, the totals and the outstanding amount after the sessions of some lanes have ended (R120). -/
theorem settleAll_figures (ks : List LaneId) (t : VoucherTable) :
    (t.settleAll slot v ks).serial = t.serial + BitVec.ofNat 16 (payingAmong slot v ks).length ∧
      (t.settleAll slot v ks).outstanding = t.outstanding + ((payingAmong slot v ks).map fun k => (v k).amount).sum ∧
      (t.settleAll slot v ks).totals = { t.totals with
        issued := saturatingSum t.totals.issued ((payingAmong slot v ks).map fun k => (v k).amount) } := by
  induction ks generalizing t with
  | nil => exact ⟨by simp [settleAll, payingAmong], rfl, rfl⟩
  | cons k rest ih =>
    obtain ⟨hserial, hout, htotals⟩ := ih (t.settleHeld (slot k) (v k))
    have hcons : t.settleAll slot v (k :: rest) = (t.settleHeld (slot k) (v k)).settleAll slot v rest := rfl
    rw [hcons, hserial, hout, htotals]
    cases hslot : slot k with
    | none =>
      have hpaying : payingAmong slot v (k :: rest) = payingAmong slot v rest := by simp [payingAmong, hslot]
      rw [hpaying]
      exact ⟨rfl, rfl, rfl⟩
    | some i =>
      obtain hzero | hpos := Nat.eq_zero_or_pos (v k).amount
      · have hpaying : payingAmong slot v (k :: rest) = payingAmong slot v rest := by simp [payingAmong, hzero]
        rw [hpaying, settleHeld_pushes hzero]
        exact ⟨rfl, rfl, rfl⟩
      · have hpaying : payingAmong slot v (k :: rest) = k :: payingAmong slot v rest := by simp [payingAmong, hslot, hpos]
        rw [hpaying, settleHeld_pays hpos]
        refine ⟨?_, ?_, rfl⟩
        · rw [List.length_cons, Nat.add_comm, BitVec.ofNat_add, ← BitVec.add_assoc]
          rfl
        · rw [List.map_cons, List.sum_cons, ← Nat.add_assoc]
          rfl

/-- The slots of the sessions without an amount lie on the stack, the last one on top (R117). -/
theorem settleAll_stack (ks : List LaneId) (t : VoucherTable) :
    (t.settleAll slot v ks).stack = ((emptyAmong v ks).filterMap slot).reverse ++ t.stack := by
  induction ks generalizing t with
  | nil => rfl
  | cons k rest ih =>
    have hcons : t.settleAll slot v (k :: rest) = (t.settleHeld (slot k) (v k)).settleAll slot v rest := rfl
    rw [hcons, ih]
    obtain hzero | hpos := Nat.eq_zero_or_pos (v k).amount
    · have hempty : emptyAmong v (k :: rest) = k :: emptyAmong v rest := by simp [emptyAmong, hzero]
      rw [hempty]
      cases hslot : slot k with
      | none =>
        rw [List.filterMap_cons_none hslot]
        rfl
      | some i =>
        rw [List.filterMap_cons_some hslot, settleHeld_pushes hzero, List.reverse_cons, List.append_assoc]
        rfl
    · have hempty : emptyAmong v (k :: rest) = emptyAmong v rest := by simp [emptyAmong, Nat.ne_of_gt hpos]
      rw [hempty]
      cases hslot : slot k with
      | none => rfl
      | some i =>
        rw [settleHeld_pays hpos]
        rfl

/-- A slot that none of the lanes held keeps what it has. -/
theorem settleAll_slot_of_not_held {i : SlotId} {ks : List LaneId} (h : ∀ k ∈ ks, slot k ≠ some i) (t : VoucherTable) :
    (t.settleAll slot v ks).slot i = t.slot i := by
  induction ks generalizing t with
  | nil => rfl
  | cons k rest ih =>
    have hcons : t.settleAll slot v (k :: rest) = (t.settleHeld (slot k) (v k)).settleAll slot v rest := rfl
    rw [hcons, ih fun j hj => h j (List.mem_cons_of_mem k hj)]
    cases hslot : slot k with
    | none => rfl
    | some j =>
      have hne : i ≠ j := fun heq => h k (by simp) (by rw [hslot, heq])
      obtain hzero | hpos := Nat.eq_zero_or_pos (v k).amount
      · rw [settleHeld_pushes hzero]
        rfl
      · rw [settleHeld_pays hpos]
        exact VoucherTable.slot_setSlot_ne _ hne _

end VoucherTable

/-! ### The session of one lane among them -/

/-- The lanes before a lane of a rising list, and the lane itself where its session ends in a voucher. -/
theorem payingAmong_filter_le {slot : LaneId → Option SlotId} {v : LaneId → Voucher} {pre post : List LaneId} {k : LaneId}
    (hrising : (pre ++ k :: post).Pairwise (· < ·)) {i : SlotId} (hslot : slot k = some i) (hpos : 0 < (v k).amount) :
    (payingAmong slot v (pre ++ k :: post)).filter (fun j => decide (j ≤ k)) = payingAmong slot v pre ++ [k] := by
  obtain ⟨_, hcons, hbefore⟩ := List.pairwise_append.mp hrising
  obtain ⟨hafter, _⟩ := List.pairwise_cons.mp hcons
  have hpre : (payingAmong slot v pre).filter (fun j => decide (j ≤ k)) = payingAmong slot v pre := by
    refine List.filter_eq_self.mpr fun j hj => decide_eq_true ?_
    exact (hbefore j (List.mem_of_mem_filter hj) k (by simp)).le
  have hpost : (payingAmong slot v post).filter (fun j => decide (j ≤ k)) = [] := by
    refine List.filter_eq_nil_iff.mpr fun j hj => ?_
    simpa using hafter j (List.mem_of_mem_filter hj)
  have hsplit : payingAmong slot v (pre ++ k :: post) = payingAmong slot v pre ++ k :: payingAmong slot v post := by
    simp [payingAmong, hslot, hpos]
  rw [hsplit, List.filter_append, hpre, List.filter_cons_of_pos (by simp), hpost]

/-- What becomes of the slot of a lane whose session ends among others: a voucher with the serial of its place, or a place on
the stack (R117, R120, R150). -/
theorem VoucherTable.settleAll_slot_of_held {slot : LaneId → Option SlotId} {v : LaneId → Voucher} {ks : List LaneId}
    (hrising : ks.Pairwise (· < ·)) {k : LaneId} (hk : k ∈ ks) {i : SlotId} (hslot : slot k = some i)
    (hown : ∀ j, slot j = some i → j = k) (t : VoucherTable) :
    (0 < (v k).amount → (t.settleAll slot v ks).slot i = .issued { v k with
        serial := t.serial + BitVec.ofNat 16 ((payingAmong slot v ks).filter fun j => decide (j ≤ k)).length }) ∧
      ((v k).amount = 0 → (t.settleAll slot v ks).slot i = t.slot i ∧ i ∈ (t.settleAll slot v ks).stack) := by
  obtain ⟨pre, post, rfl⟩ := List.append_of_mem hk
  obtain ⟨_, hcons, hbefore⟩ := List.pairwise_append.mp hrising
  obtain ⟨hafter, _⟩ := List.pairwise_cons.mp hcons
  have hpost : ∀ j ∈ post, slot j ≠ some i := fun j hj heq => (hafter j hj).ne' (hown j heq)
  have hpre : ∀ j ∈ pre, slot j ≠ some i := fun j hj heq => (hbefore j hj k (by simp)).ne (hown j heq)
  have hsplit : t.settleAll slot v (pre ++ k :: post) =
      ((t.settleAll slot v pre).settleHeld (some i) (v k)).settleAll slot v post := by
    rw [settleAll_append, ← hslot]
    rfl
  refine ⟨fun hpos => ?_, fun hzero => ⟨?_, ?_⟩⟩
  · obtain ⟨hserial, _⟩ := VoucherTable.settleAll_figures (slot := slot) (v := v) pre t
    rw [payingAmong_filter_le hrising hslot hpos, hsplit, settleAll_slot_of_not_held hpost, settleHeld_pays hpos,
      List.length_append, BitVec.ofNat_add, ← BitVec.add_assoc, ← hserial]
    exact VoucherTable.slot_setSlot_self _ _ _
  · rw [hsplit, settleAll_slot_of_not_held hpost, settleHeld_pushes hzero]
    exact settleAll_slot_of_not_held hpre t
  · rw [hsplit, settleHeld_pushes hzero, settleAll_stack]
    simp [VoucherTable.push]

theorem laneIds_rising : laneIds.Pairwise (· < ·) := by decide

end Sys2Proof.Machine
end

section
/-! Entry to HOLD-UP (R53, R143, R150): the lanes one after another, the sessions that it closes, and the links. -/

namespace Sys2Proof.Machine

/-! ### One lane -/

/-- The voucher of a supply close (R53). -/
def Lane.supplyVoucher (l : Lane) (k : LaneId) : Voucher := (l.unconfirming l.transitCredit l.transitCount).closeVoucher k true

/-- A lane whose waiting claim was refused POWER, if it is ACTIVE and has one (R53). -/
def State.claimRefused (s : State) (k : LaneId) : State :=
  if (s.lane k).state = .active ∧ (s.claimOf k).isSome = true then s.refuseClaim k .power else s

section
variable (s : State) (k : LaneId)

@[simp] theorem State.claimRefused_lane (j : LaneId) : (s.claimRefused k).lane j = s.lane j := by
  unfold State.claimRefused
  split <;> simp

@[simp] theorem State.claimRefused_table : (s.claimRefused k).table = s.table := by
  unfold State.claimRefused
  split <;> simp

@[simp] theorem State.claimRefused_transit : (s.claimRefused k).transit = s.transit := by
  unfold State.claimRefused
  split <;> simp

theorem State.claimRefused_port_ne {l : Link} (hl : l ≠ .lane k) : (s.claimRefused k).port l = s.port l := by
  unfold State.claimRefused
  split
  · exact State.refuseClaim_port_ne _ _ hl
  · rfl

/-- Without a claim of the lane in the set nothing is taken out of it. -/
theorem State.claims_filter_of_none (h : s.claimOf k = none) :
    (s.merge.claims.filter fun c => !(c.lane == k)) = s.merge.claims := by
  refine List.filter_eq_self.mpr fun c hc => ?_
  have := List.find?_eq_none.mp h c hc
  simpa using this

theorem State.claimRefused_merge :
    (s.claimRefused k).merge = { s.merge with
      claims := if (s.lane k).state = .active then s.merge.claims.filter fun c => !(c.lane == k) else s.merge.claims } := by
  unfold State.claimRefused
  by_cases hactive : (s.lane k).state = .active
  · rw [if_pos hactive]
    cases hclaim : s.claimOf k with
    | none =>
      rw [if_neg (by simp), s.claims_filter_of_none k hclaim]
    | some c =>
      rw [if_pos ⟨hactive, rfl⟩, State.refuseClaim_merge]
  · rw [if_neg hactive, if_neg fun h => hactive h.1]

theorem State.holdUpLane_of_session (h : (s.lane k).state.inSession = true) :
    s.holdUpLane k = (s.claimRefused k).closeWith k (s.lane k).transitCredit (s.lane k).transitCount true := by
  rw [← State.claimRefused_lane s k k, ← State.supplyClose_eq]
  unfold State.holdUpLane State.claimRefused
  cases hst : (s.lane k).state with
  | active => simp
  | settling => simp
  | ready => rw [hst] at h; cases h
  | parked => rw [hst] at h; cases h

theorem State.holdUpLane_of_ready (h : (s.lane k).state = .ready) :
    s.holdUpLane k = (s.setLane k { s.lane k with state := .parked, parkPending := false }).raise (.lane k) .state := by
  rw [State.holdUpLane, h]

/-- A lane is ACTIVE or SETTLING, READY, or PARKED. -/
theorem Lane.state_cases (l : Lane) : l.state.inSession = true ∨ l.state = .ready ∨ l.state = .parked := by
  cases h : l.state <;> simp [LaneState.inSession]

theorem State.holdUpLane_lane_ne {j : LaneId} (hj : j ≠ k) : (s.holdUpLane k).lane j = s.lane j := by
  obtain h | h | h := (s.lane k).state_cases
  · rw [s.holdUpLane_of_session k h, State.closeWith_lane_ne _ _ _ _ _ hj, State.claimRefused_lane]
  · rw [s.holdUpLane_of_ready k h, State.raise_lane, State.lane_setLane_ne _ hj]
  · rw [State.holdUpLane_of_parked h]

theorem State.holdUpLane_port_ne {l : Link} (hl : l ≠ .lane k) : (s.holdUpLane k).port l = s.port l := by
  obtain h | h | h := (s.lane k).state_cases
  · rw [s.holdUpLane_of_session k h, State.closeWith_port_ne _ _ _ _ _ hl, State.claimRefused_port_ne _ _ hl]
  · rw [s.holdUpLane_of_ready k h, State.raise_port_ne _ _ hl, State.setLane_port]
  · rw [State.holdUpLane_of_parked h]

theorem State.holdUpLane_merge :
    (s.holdUpLane k).merge = { s.merge with
      claims := if (s.lane k).state = .active then s.merge.claims.filter fun c => !(c.lane == k) else s.merge.claims } := by
  obtain h | h | h := (s.lane k).state_cases
  · have hmerge : (s.holdUpLane k).merge = (s.claimRefused k).merge := by
      rw [s.holdUpLane_of_session k h]
      exact (congrArg State.merge (State.closeWith_frame _ _ _ _ _) :)
    rw [hmerge, State.claimRefused_merge]
  · rw [s.holdUpLane_of_ready k h, h, if_neg (by simp)]
    rfl
  · rw [State.holdUpLane_of_parked h, h, if_neg (by simp)]

theorem State.holdUpLane_claimOf_ne {j : LaneId} (hj : j ≠ k) : (s.holdUpLane k).claimOf j = s.claimOf j := by
  have hmerge := congrArg MergeArbiter.claims (s.holdUpLane_merge k)
  by_cases hactive : (s.lane k).state = .active
  · rw [if_pos hactive] at hmerge
    exact (State.claimOf_of_filter hmerge j).trans (if_neg hj)
  · rw [if_neg hactive] at hmerge
    rw [State.claimOf, hmerge, ← State.claimOf]

/-- The records of a lane in a session are detached (R52, R53). -/
theorem State.holdUpLane_transit :
    (s.holdUpLane k).transit =
      if (s.lane k).state.inSession = true then s.transit.map (TransitRecord.detachedFrom k) else s.transit := by
  obtain h | h | h := (s.lane k).state_cases
  · rw [if_pos h, s.holdUpLane_of_session k h, State.closeWith_transit, State.claimRefused_transit, detachAll_eq]
  · rw [s.holdUpLane_of_ready k h, h]
    rfl
  · rw [State.holdUpLane_of_parked h, h]
    rfl

/-- The slot of a lane in a session goes back; a lane without one holds none (R36, R53). -/
theorem State.holdUpLane_table (hslot : (s.lane k).slot.isSome = (s.lane k).state.inSession) :
    (s.holdUpLane k).table = s.table.settleHeld (s.held k) ((s.lane k).supplyVoucher k) := by
  have hnone : (s.lane k).state.inSession = false → s.held k = none := fun h => by
    rw [h] at hslot
    exact Option.not_isSome_iff_eq_none.mp (by simpa [State.held] using hslot)
  obtain h | h | h := (s.lane k).state_cases
  · rw [s.holdUpLane_of_session k h, State.closeWith, State.closeSession_settles, State.lane_setLane_self, State.setLane_table,
      State.claimRefused_table, State.claimRefused_lane]
    rfl
  · rw [hnone (by rw [h]; rfl), s.holdUpLane_of_ready k h]
    rfl
  · rw [hnone (by rw [h]; rfl), State.holdUpLane_of_parked h]
    rfl

theorem State.holdUpLane_frame :
    s.holdUpLane k = { s with
      ports := (s.holdUpLane k).ports, lanes := (s.holdUpLane k).lanes, merge := (s.holdUpLane k).merge
      transit := (s.holdUpLane k).transit, table := (s.holdUpLane k).table } := by
  obtain h | h | h := (s.lane k).state_cases
  · rw [s.holdUpLane_of_session k h]
    unfold State.claimRefused
    split <;> apply State.ext_fields <;> simp [State.closeWith]
  · rw [s.holdUpLane_of_ready k h]
    rfl
  · rw [State.holdUpLane_of_parked h]

end

/-! ### The lanes one after another -/

section
variable (ks : List LaneId) (t : State)

theorem State.foldl_holdUpLane_lane_ne {k : LaneId} (hk : k ∉ ks) : (ks.foldl State.holdUpLane t).lane k = t.lane k :=
  List.foldlRecOn (motive := fun u : State => u.lane k = t.lane k) ks State.holdUpLane rfl fun u hu j hj =>
    (u.holdUpLane_lane_ne j (ne_of_mem_of_not_mem hj hk).symm).trans hu

theorem State.foldl_holdUpLane_port_ne {l : Link} (hl : ∀ k ∈ ks, l ≠ .lane k) :
    (ks.foldl State.holdUpLane t).port l = t.port l :=
  List.foldlRecOn (motive := fun u : State => u.port l = t.port l) ks State.holdUpLane rfl fun u hu j hj =>
    (u.holdUpLane_port_ne j (hl j hj)).trans hu

theorem State.foldl_holdUpLane_claimOf_ne {k : LaneId} (hk : k ∉ ks) :
    (ks.foldl State.holdUpLane t).claimOf k = t.claimOf k :=
  List.foldlRecOn (motive := fun u : State => u.claimOf k = t.claimOf k) ks State.holdUpLane rfl fun u hu j hj =>
    (u.holdUpLane_claimOf_ne j (ne_of_mem_of_not_mem hj hk).symm).trans hu

/-- The table after HOLD-UP has reached these lanes: their sessions have ended one after another. -/
theorem State.foldl_holdUpLane_table (hnodup : ks.Nodup)
    (hslot : ∀ k ∈ ks, (t.lane k).slot.isSome = (t.lane k).state.inSession) :
    (ks.foldl State.holdUpLane t).table = t.table.settleAll t.held (fun k => (t.lane k).supplyVoucher k) ks := by
  induction ks generalizing t with
  | nil => rfl
  | cons k rest ih =>
    obtain ⟨hfresh, hrest⟩ := List.nodup_cons.mp hnodup
    have hlane : ∀ j ∈ rest, (t.holdUpLane k).lane j = t.lane j := fun j hj =>
      t.holdUpLane_lane_ne k (ne_of_mem_of_not_mem hj hfresh)
    rw [List.foldl_cons, ih (t.holdUpLane k) hrest fun j hj => by rw [hlane j hj]; exact hslot j (List.mem_cons_of_mem k hj),
      t.holdUpLane_table k (hslot k (by simp))]
    exact VoucherTable.settleAll_congr (fun j hj => by rw [State.held, hlane j hj]; exact ⟨rfl, rfl⟩) _

theorem State.foldl_holdUpLane_transit (hnodup : ks.Nodup) :
    (ks.foldl State.holdUpLane t).transit =
      t.transit.map fun r => if r.lane ∈ ks ∧ (t.lane r.lane).state.inSession = true then { r with attached := false } else r := by
  induction ks generalizing t with
  | nil => simp
  | cons k rest ih =>
    obtain ⟨hfresh, hrest⟩ := List.nodup_cons.mp hnodup
    have hlane : ∀ j ∈ rest, (t.holdUpLane k).lane j = t.lane j := fun j hj =>
      t.holdUpLane_lane_ne k (ne_of_mem_of_not_mem hj hfresh)
    have hlater : ∀ r : TransitRecord, (r.lane ∈ rest ∧ ((t.holdUpLane k).lane r.lane).state.inSession = true ↔
        r.lane ∈ rest ∧ (t.lane r.lane).state.inSession = true) := fun r =>
      and_congr_right fun hr => by rw [hlane r.lane hr]
    rw [List.foldl_cons, ih (t.holdUpLane k) hrest, State.holdUpLane_transit]
    simp only [hlater]
    by_cases hsession : (t.lane k).state.inSession = true
    · rw [if_pos hsession, List.map_map]
      refine List.map_congr_left fun r _ => ?_
      unfold TransitRecord.detachedFrom
      by_cases hr : r.lane = k
      · simp [Function.comp, hr, hfresh, hsession]
      · simp [Function.comp, hr]
    · rw [if_neg hsession]
      refine List.map_congr_left fun r _ => ?_
      by_cases hr : r.lane = k
      · simp [hr, hfresh, hsession]
      · simp [hr]

/-- The claims that HOLD-UP leaves, and the rest of the arbiter. -/
theorem State.foldl_holdUpLane_merge (hnodup : ks.Nodup) :
    (ks.foldl State.holdUpLane t).merge = { t.merge with
      claims := t.merge.claims.filter fun c => !decide (c.lane ∈ ks ∧ (t.lane c.lane).state = .active) } := by
  induction ks generalizing t with
  | nil => simp
  | cons k rest ih =>
    obtain ⟨hfresh, hrest⟩ := List.nodup_cons.mp hnodup
    have hlane : ∀ j ∈ rest, (t.holdUpLane k).lane j = t.lane j := fun j hj =>
      t.holdUpLane_lane_ne k (ne_of_mem_of_not_mem hj hfresh)
    have hlater : ∀ c : Claim, (c.lane ∈ rest ∧ ((t.holdUpLane k).lane c.lane).state = .active ↔
        c.lane ∈ rest ∧ (t.lane c.lane).state = .active) := fun c =>
      and_congr_right fun hc => by rw [hlane c.lane hc]
    rw [List.foldl_cons, ih (t.holdUpLane k) hrest, State.holdUpLane_merge]
    simp only [hlater]
    by_cases hactive : (t.lane k).state = .active
    · rw [if_pos hactive, List.filter_filter]
      congr 1
      refine List.filter_congr fun c _ => ?_
      by_cases hc : c.lane = k
      · simp [hc, hactive]
      · simp [hc]
    · rw [if_neg hactive]
      congr 1
      refine List.filter_congr fun c _ => ?_
      by_cases hc : c.lane = k
      · simp [hc, hfresh, hactive]
      · simp [hc]

theorem State.foldl_holdUpLane_frame :
    ks.foldl State.holdUpLane t = { t with
      ports := (ks.foldl State.holdUpLane t).ports, lanes := (ks.foldl State.holdUpLane t).lanes
      merge := (ks.foldl State.holdUpLane t).merge, transit := (ks.foldl State.holdUpLane t).transit
      table := (ks.foldl State.holdUpLane t).table } := by
  induction ks generalizing t with
  | nil => rfl
  | cons k rest ih =>
    rw [List.foldl_cons]
    refine (ih (t.holdUpLane k)).trans ?_
    generalize rest.foldl State.holdUpLane (t.holdUpLane k) = u
    rw [t.holdUpLane_frame k]

end

/-- HOLD-UP at one lane of all: what it finds there, and that nothing of the lane changes afterwards. -/
theorem State.holdUpLanes_at (t : State) (k : LaneId) :
    ∃ (pre post : List LaneId) (u : State), laneIds = pre ++ k :: post ∧ u = pre.foldl State.holdUpLane t ∧
      u.lane k = t.lane k ∧ u.port (.lane k) = t.port (.lane k) ∧ u.claimOf k = t.claimOf k ∧
      (laneIds.foldl State.holdUpLane t).lane k = (u.holdUpLane k).lane k ∧
      (laneIds.foldl State.holdUpLane t).port (.lane k) = (u.holdUpLane k).port (.lane k) := by
  obtain ⟨pre, post, hsplit⟩ := List.append_of_mem (mem_laneIds k)
  have hnodup : (pre ++ k :: post).Nodup := hsplit ▸ (by decide : laneIds.Nodup)
  obtain ⟨_, hcons, hdisjoint⟩ := List.nodup_append.mp hnodup
  obtain ⟨hpost, _⟩ := List.nodup_cons.mp hcons
  have hpre : k ∉ pre := fun h => hdisjoint k h k (by simp) rfl
  have hfold : laneIds.foldl State.holdUpLane t = post.foldl State.holdUpLane ((pre.foldl State.holdUpLane t).holdUpLane k) := by
    rw [hsplit, List.foldl_append, List.foldl_cons]
  have hlink : ∀ {js : List LaneId}, k ∉ js → ∀ j ∈ js, Link.lane k ≠ .lane j := fun h j hj heq =>
    h (by cases heq; exact hj)
  refine ⟨pre, post, _, hsplit, rfl, State.foldl_holdUpLane_lane_ne _ _ hpre, State.foldl_holdUpLane_port_ne _ _ (hlink hpre),
    State.foldl_holdUpLane_claimOf_ne _ _ hpre, ?_, ?_⟩
  · rw [hfold]
    exact State.foldl_holdUpLane_lane_ne _ _ hpost
  · rw [hfold]
    exact State.foldl_holdUpLane_port_ne _ _ (hlink hpost)

end Sys2Proof.Machine
end

section
/-! SUPWARN in NORMAL (R143, R150, R53): the corner in HOLD-UP, and the vouchers of its supply closes. -/

namespace Sys2Proof.Machine

/-! ### The first and the last steps of the entry -/

/-- HOLD-UP entered, before it reaches the lanes (R150 step 1). -/
def State.holdUpBegun (s : State) : State := ((s.setSupplyState .holdUp).reevaluateRunning).reformHeld

/-- HOLD-UP with all lanes reached (R150 step 2). -/
def State.holdUpLanes (s : State) : State := laneIds.foldl State.holdUpLane s.holdUpBegun

/-- The active lane modes PARKED (R143). -/
def State.modesParked (s : State) : State := { s with plans := { s.plans with active := s.plans.active.parkModes } }

theorem State.modesParked_port (s : State) (l : Link) : s.modesParked.port l = s.port l := rfl

/-- HOLD-UP with the lane modes PARKED (R150 step 3). -/
def State.holdUpParked (s : State) : State := s.holdUpLanes.modesParked

theorem State.enterHoldUp_eq (s : State) : s.enterHoldUp = (links.foldl State.setPower s.holdUpParked).raise .office .supply := rfl

theorem exec_supwarnAsserted {s : State} (hup : s.isUp = true) : exec .supwarnAsserted s = .next s.warn :=
  congrArg Host.Outcome.next (State.whenUp_up hup _)

theorem exec_supwarnAsserted_normal {s : State} (hup : s.isUp = true) (hnormal : s.supply.state = .normal) :
    exec .supwarnAsserted s = .next s.enterHoldUp := by
  rw [exec_supwarnAsserted hup, State.warn, if_neg (by simp [State.inHoldUp, hnormal])]

section
variable (s : State)

/-- The entry stops the belt, whose stop holds the lanes (R7, R63). -/
theorem State.holdUpBegun_eq :
    s.holdUpBegun = State.reformHeld { s.setSupplyState .holdUp with belt := { s.belt with running := false } } := by
  have hstop : (s.setSupplyState .holdUp).runConditions = false := by
    simp [State.runConditions, State.setSupplyState, State.inHoldUp]
  rw [State.holdUpBegun, State.reevaluateRunning_reformHeld, hstop]
  rfl

theorem State.holdUpBegun_frame :
    s.holdUpBegun = { s.setSupplyState .holdUp with
      ports := s.holdUpBegun.ports, belt := { s.belt with running := false }, merge := { s.merge with held := true } } := by
  have hcauses : State.heldCauses { s.setSupplyState .holdUp with belt := { s.belt with running := false } } = true := by
    simp [State.heldCauses]
  have hmerge : s.holdUpBegun.merge = { s.merge with held := true } := by
    rw [State.holdUpBegun_eq, State.reformHeld_merge, hcauses]
    rfl
  rw [← hmerge, State.holdUpBegun_eq]
  exact State.reformHeld_frame _

theorem State.holdUpBegun_noticed (k : LaneId) :
    s.holdUpBegun.port (.lane k) = (s.port (.lane k)).noticed (!s.merge.held) := by
  have hheld : s.holdUpBegun.merge.held = true := (congrArg (fun t : State => t.merge.held) s.holdUpBegun_frame :)
  have hnoticed := State.reformHeld_noticed { s.setSupplyState .holdUp with belt := { s.belt with running := false } } k
  rw [← State.holdUpBegun_eq, hheld] at hnoticed
  refine hnoticed.trans (congrArg (LinkPort.noticed _) ?_)
  exact Bool.true_bne _

theorem State.holdUpBegun_port_checkout : s.holdUpBegun.port .checkout = s.port .checkout := by
  rw [State.holdUpBegun_eq, State.reformHeld_port_checkout]
  rfl

theorem State.holdUpBegun_port_office : s.holdUpBegun.port .office = s.port .office := by
  rw [State.holdUpBegun_eq, State.reformHeld_port_office]
  rfl

@[simp] theorem State.holdUpBegun_lane (k : LaneId) : s.holdUpBegun.lane k = s.lane k := by
  rw [State.holdUpBegun_eq, State.reformHeld_lane]
  rfl

@[simp] theorem State.holdUpBegun_claimOf (k : LaneId) : s.holdUpBegun.claimOf k = s.claimOf k := by
  rw [State.holdUpBegun_eq, State.reformHeld_claimOf]
  rfl

theorem mem_links (l : Link) : l ∈ links := by
  cases l with
  | lane k => revert k; decide
  | checkout => decide
  | office => decide

/-- The power flag of every link is set (R163). -/
theorem State.foldl_setPower_port (l : Link) : (links.foldl State.setPower s).port l = { s.port l with power := true } := by
  have h := foldl_visits (P := fun _ => True) (part := State.port) (f := State.setPower)
    (g := fun _ p => { p with power := true }) (fun _ _ _ => trivial) (fun t l _ => State.port_setPort_self _ _ _)
    (fun t l m _ hm => State.port_setPort_ne _ hm _) (ks := links) (by decide) (s := s) trivial l
  rwa [if_pos (mem_links l)] at h

theorem State.foldl_setPower_frame : links.foldl State.setPower s = { s with ports := (links.foldl State.setPower s).ports } :=
  List.foldlRecOn (motive := fun t : State => t = { s with ports := t.ports }) links State.setPower rfl fun t ht l _ => by
    have hset : t.setPower l = { t with ports := (t.setPower l).ports } := rfl
    refine hset.trans ?_
    generalize t.setPower l = u
    rw [ht]

theorem State.holdUpParked_port (l : Link) : s.holdUpParked.port l = s.holdUpLanes.port l := s.holdUpLanes.modesParked_port l

theorem State.enterHoldUp_port {l : Link} (hl : l ≠ .office) :
    s.enterHoldUp.port l = { s.holdUpLanes.port l with power := true } := by
  rw [State.enterHoldUp_eq, State.raise_port_ne _ _ hl, State.foldl_setPower_port, State.holdUpParked_port]

theorem State.holdUpLanes_port_office : s.holdUpLanes.port .office = s.port .office :=
  (State.foldl_holdUpLane_port_ne laneIds s.holdUpBegun fun k _ => by simp).trans s.holdUpBegun_port_office

theorem State.holdUpLanes_port_checkout : s.holdUpLanes.port .checkout = s.port .checkout :=
  (State.foldl_holdUpLane_port_ne laneIds s.holdUpBegun fun k _ => by simp).trans s.holdUpBegun_port_checkout

theorem State.enterHoldUp_port_office :
    s.enterHoldUp.port .office = { s.port .office with
      power := true, notices := { (s.port .office).notices with supply := true } } := by
  rw [State.enterHoldUp_eq, State.raise_port_self, State.foldl_setPower_port, State.holdUpParked_port, State.holdUpLanes_port_office]
  rfl

/-- What the entry leaves alone, and the lanes, records, claims and table of `State.holdUpLanes`. -/
theorem State.enterHoldUp_frame :
    s.enterHoldUp = { s.holdUpParked with ports := s.enterHoldUp.ports } := by
  have hpower := s.holdUpParked.foldl_setPower_frame
  have hraise : s.enterHoldUp = { links.foldl State.setPower s.holdUpParked with ports := s.enterHoldUp.ports } := rfl
  refine hraise.trans ?_
  generalize links.foldl State.setPower s.holdUpParked = t at hpower
  rw [hpower]

end

/-! ### The link of a lane -/

theorem LinkPort.AnsweredByEvent.notices_eq {p q : LinkPort} {f : List Byte} {n : Notices} (h : p.AnsweredByEvent q f n) :
    q.notices = n := by
  obtain ⟨_, _, _, _, hnotices, _⟩ := h
  exact hnotices

theorem LinkPort.AnsweredByEvent.inFlight_eq {p q : LinkPort} {f : List Byte} {n : Notices} (h : p.AnsweredByEvent q f n) :
    q.inFlight = none := by
  obtain ⟨_, _, hflight, _⟩ := h
  exact hflight

theorem LinkPort.AnsweredByEvent.powered {p q : LinkPort} {f : List Byte} {n : Notices} (h : p.AnsweredByEvent q f n) :
    LinkPort.AnsweredByEvent { p with power := true } { q with power := true } f n := by
  obtain ⟨hreceiver, hidle, hflight, hqueue, hnotices, _, hsending⟩ := h
  exact ⟨hreceiver, hidle, hflight, hqueue, hnotices, rfl, hsending⟩

theorem LinkPort.AnsweredByEvent.noticed {p q : LinkPort} {f : List Byte} (h : p.AnsweredByEvent q f p.notices)
    (changed : Bool) : (p.noticed changed).AnsweredByEvent (q.noticed changed) f (p.noticed changed).notices := by
  cases changed with
  | false => exact h
  | true =>
    obtain ⟨hreceiver, hidle, hflight, hqueue, hnotices, hrest⟩ := h
    exact ⟨hreceiver, hidle, hflight, hqueue, congrArg (fun n : Notices => { n with state := true }) hnotices, hrest⟩

theorem LinkPort.noticed_twice (p : LinkPort) (a b : Bool) : (p.noticed a).noticed b = p.noticed (a || b) := by
  cases a <;> cases b <;> rfl

/-- The link of a lane that a supply close ends. -/
theorem State.holdUpLane_port_of_session {u : State} {k : LaneId} (h : (u.lane k).state.inSession = true) :
    ∃ r, (u.holdUpLane k).port (.lane k) = ((u.claimRefused k).port (.lane k)).closed true r := by
  have hport := State.closeSession_port_closed ((u.claimRefused k).setLane k
    (((u.claimRefused k).lane k).unconfirming (u.lane k).transitCredit (u.lane k).transitCount)) k true
  rw [Bool.or_true, State.setLane_port] at hport
  rw [u.holdUpLane_of_session k h]
  exact ⟨_, hport⟩

/-- The link of a lane that HOLD-UP reaches, by the request in flight on it (R53, R56, R57). -/
theorem State.holdUpLane_link {u : State} {k : LaneId}
    (hclaim : (u.port (.lane k)).inFlight = some .container ↔ (u.claimOf k).isSome = true)
    (hactive : (u.claimOf k).isSome = true → (u.lane k).state = .active)
    (hend : (u.port (.lane k)).inFlight = some .endSession ↔ (u.lane k).state = .settling)
    (hflight : (u.port (.lane k)).inFlight = none ∨ (u.port (.lane k)).inFlight = some .container ∨
      (u.port (.lane k)).inFlight = some .endSession) :
    ((u.port (.lane k)).inFlight = some .container →
      ((u.port (.lane k)).noticed ((u.lane k).state != .parked)).AnsweredByEvent ((u.holdUpLane k).port (.lane k))
        (refusal .container .power).frame ((u.port (.lane k)).noticed ((u.lane k).state != .parked)).notices) ∧
    ((u.port (.lane k)).inFlight = none →
      (u.holdUpLane k).port (.lane k) = (u.port (.lane k)).noticed ((u.lane k).state != .parked)) ∧
    ((u.holdUpLane k).port (.lane k)).notices = ((u.port (.lane k)).noticed ((u.lane k).state != .parked)).notices ∧
    ((u.holdUpLane k).port (.lane k)).inFlight = none := by
  obtain hnone | hcontainer | hsettles := hflight
  · have hport : (u.holdUpLane k).port (.lane k) = (u.port (.lane k)).noticed ((u.lane k).state != .parked) := by
      obtain h | h | h := (u.lane k).state_cases
      · obtain ⟨r, hr⟩ := State.holdUpLane_port_of_session h
        have hrefused : u.claimRefused k = u := if_neg fun hc => by rw [← hclaim, hnone] at hc; cases hc.2
        have hne : ((u.lane k).state != .parked) = true := by cases hst : (u.lane k).state <;> simp_all [LaneState.inSession]
        rw [hr, hrefused, LinkPort.closed, hnone, if_neg (by simp), hne]
      · rw [u.holdUpLane_of_ready k h, State.raise_port_self, State.setLane_port, h]
        rfl
      · rw [State.holdUpLane_of_parked h, h]
        rfl
    refine ⟨fun h => ?_, fun _ => hport, congrArg LinkPort.notices hport, ?_⟩
    · rw [hnone] at h
      cases h
    · rw [hport, LinkPort.noticed_eq]
      exact hnone
  · have hwaits := hclaim.mp hcontainer
    have hst := hactive hwaits
    obtain ⟨r, hr⟩ := State.holdUpLane_port_of_session (u := u) (k := k) (by rw [hst]; rfl)
    have hrefused : u.claimRefused k = u.refuseClaim k .power := if_pos ⟨hst, hwaits⟩
    have hport : (u.holdUpLane k).port (.lane k) = ((u.refuseClaim k .power).port (.lane k)).noticed true := by
      rw [hr, hrefused, LinkPort.closed, State.refuseClaim_port_self, if_neg (by simp)]
    have hanswered := (u.refuseClaim_answers k .power).noticed true
    rw [hport, hst]
    refine ⟨fun _ => hanswered, fun h => ?_, hanswered.notices_eq, hanswered.inFlight_eq⟩
    rw [hcontainer] at h
    cases h
  · have hst := hend.mp hsettles
    obtain ⟨r, hr⟩ := State.holdUpLane_port_of_session (u := u) (k := k) (by rw [hst]; rfl)
    have hrefused : u.claimRefused k = u := if_neg fun hc => by rw [hst] at hc; cases hc.1
    have hanswered := (LinkPort.answeredByEvent_enqueue (u.port (.lane k)) r.frame).noticed true
    rw [hrefused, LinkPort.closed, if_pos hsettles] at hr
    rw [hr, hst]
    refine ⟨fun h => ?_, fun h => ?_, hanswered.notices_eq, hanswered.inFlight_eq⟩
    · rw [hsettles] at h
      cases h
    · rw [hsettles] at h
      cases h

/-- The link of a lane after the entry (R53, R56, R57, R163). -/
theorem State.enterHoldUp_link {s : State} (h : s.ClaimsInFlight) (k : LaneId) (p : LinkPort)
    (hp : p = { (s.port (.lane k)).noticed (!s.merge.held || (s.lane k).state != .parked) with power := true }) :
    ((s.port (.lane k)).inFlight = some .container →
        p.AnsweredByEvent (s.enterHoldUp.port (.lane k)) (refusal .container .power).frame p.notices) ∧
      ((s.port (.lane k)).inFlight = none → s.enterHoldUp.port (.lane k) = p) ∧
      (s.enterHoldUp.port (.lane k)).notices = p.notices ∧ (s.enterHoldUp.port (.lane k)).inFlight = none := by
  obtain ⟨_, hlanes, _⟩ := h
  obtain ⟨hclaim, hactive, hend, hflight⟩ := hlanes k
  obtain ⟨pre, post, u, _, _, hlane, hport, hclaimOf, _, hresult⟩ := State.holdUpLanes_at s.holdUpBegun k
  rw [State.holdUpBegun_lane] at hlane
  rw [State.holdUpBegun_claimOf] at hclaimOf
  rw [State.holdUpBegun_noticed] at hport
  have hsame : (u.port (.lane k)).inFlight = (s.port (.lane k)).inFlight := by rw [hport, LinkPort.noticed_eq]
  obtain ⟨hanswers, hrests, hnotices, hnone⟩ := State.holdUpLane_link (u := u) (k := k) (by rw [hsame, hclaimOf]; exact hclaim)
    (by rw [hclaimOf, hlane]; exact hactive) (by rw [hsame, hlane]; exact hend) (by rw [hsame]; exact hflight)
  rw [hsame] at hanswers hrests
  rw [hport, hlane, LinkPort.noticed_twice, ← hresult] at hanswers hrests hnotices
  rw [← hresult] at hnone
  rw [State.enterHoldUp_port s (by simp), hp]
  refine ⟨fun hf => (hanswers hf).powered, fun hf => ?_, hnotices, hnone⟩
  exact congrArg (fun q : LinkPort => { q with power := true }) (hrests hf)

/-! ### The corner in HOLD-UP -/

/-- What of the corner HOLD-UP changes (R150). -/
theorem State.holdUpLanes_frame (s : State) :
    s.holdUpLanes = { s.setSupplyState .holdUp with
      ports := s.holdUpLanes.ports, belt := { s.belt with running := false }, lanes := s.holdUpLanes.lanes
      merge := s.holdUpLanes.merge, transit := s.holdUpLanes.transit, table := s.holdUpLanes.table } := by
  have hlanes : s.holdUpLanes = _ := State.foldl_holdUpLane_frame laneIds s.holdUpBegun
  rw [← State.holdUpLanes] at hlanes
  refine hlanes.trans ?_
  generalize s.holdUpLanes = t
  rw [s.holdUpBegun_frame]

theorem State.enterHoldUp_eq_parked (s : State) :
    s.enterHoldUp = { s.setSupplyState .holdUp with
      ports := s.enterHoldUp.ports, belt := { s.belt with running := false }, lanes := s.holdUpLanes.lanes
      merge := s.holdUpLanes.merge, transit := s.holdUpLanes.transit, table := s.holdUpLanes.table
      plans := { s.plans with active := s.plans.active.parkModes } } := by
  have hframe := s.holdUpLanes_frame
  have hparked : s.holdUpParked = { s.setSupplyState .holdUp with
      ports := s.holdUpLanes.ports, belt := { s.belt with running := false }, lanes := s.holdUpLanes.lanes
      merge := s.holdUpLanes.merge, transit := s.holdUpLanes.transit, table := s.holdUpLanes.table
      plans := { s.plans with active := s.plans.active.parkModes } } := by
    rw [State.holdUpParked]
    generalize s.holdUpLanes = t at hframe ⊢
    have hplans : t.plans = s.plans := (congrArg State.plans hframe :)
    rw [State.modesParked, hplans]
    conv_lhs => rw [hframe]
  refine s.enterHoldUp_frame.trans ?_
  rw [hparked]

theorem State.enterHoldUp_lane (s : State) (k : LaneId) : s.enterHoldUp.lane k = s.holdUpLanes.lane k := by
  have hlanes : s.enterHoldUp.lanes = s.holdUpLanes.lanes := (congrArg State.lanes s.enterHoldUp_eq_parked :)
  rw [State.lane, hlanes, ← State.lane]

/-- A lane that HOLD-UP has reached is PARKED without a session (R53). -/
theorem State.holdUpLane_parks {u : State} {k : LaneId} (hslot : (u.lane k).slot.isSome = (u.lane k).state.inSession) :
    ((u.holdUpLane k).lane k).state = .parked ∧ ((u.holdUpLane k).lane k).slot = none := by
  have hnone : (u.lane k).state.inSession = false → (u.lane k).slot = none := fun h => by
    rw [h] at hslot
    exact Option.not_isSome_iff_eq_none.mp (by simp [hslot])
  obtain h | h | h := (u.lane k).state_cases
  · rw [u.holdUpLane_of_session k h, State.closeWith, State.closeSession_lane, if_pos rfl, Bool.or_true]
    exact ⟨rfl, rfl⟩
  · rw [u.holdUpLane_of_ready k h, State.raise_lane, State.lane_setLane_self]
    exact ⟨rfl, hnone (by rw [h]; rfl)⟩
  · rw [State.holdUpLane_of_parked h]
    exact ⟨h, hnone (by rw [h]; rfl)⟩

theorem State.enterHoldUp_parks {s : State} (hup : s.isUp = true) (h : s.SlotsConserved) (k : LaneId) :
    ((s.enterHoldUp.lane k).state = .parked ∧ (s.enterHoldUp.lane k).slot = none) ∧
      ((s.lane k).state = .parked → s.enterHoldUp.lane k = s.lane k) := by
  obtain ⟨_, _, _, _, hsessions⟩ := h
  obtain ⟨pre, post, u, _, _, hlane, _, _, hresult, _⟩ := State.holdUpLanes_at s.holdUpBegun k
  rw [State.holdUpBegun_lane] at hlane
  rw [State.enterHoldUp_lane, State.holdUpLanes, hresult]
  refine ⟨State.holdUpLane_parks (by rw [hlane]; exact hsessions hup k), fun hst => ?_⟩
  rw [State.holdUpLane_of_parked (by rw [hlane]; exact hst), hlane]

/-- No claim waits in HOLD-UP (R53). -/
theorem State.holdUpLanes_merge {s : State} (h : s.ClaimsInFlight) :
    s.holdUpLanes.merge = { s.merge with claims := [], held := true } := by
  obtain ⟨_, hlanes, _⟩ := h
  have hmerge : s.holdUpBegun.merge = { s.merge with held := true } := (congrArg State.merge s.holdUpBegun_frame :)
  have hnil : (s.merge.claims.filter fun c =>
      !decide (c.lane ∈ laneIds ∧ (s.holdUpBegun.lane c.lane).state = .active)) = [] := by
    refine List.filter_eq_nil_iff.mpr fun c hc => ?_
    obtain ⟨_, hactive, _⟩ := hlanes c.lane
    have hst := hactive (State.claimOf_isSome_iff.mpr (List.mem_map_of_mem (f := Claim.lane) hc))
    simp [mem_laneIds, hst]
  rw [State.holdUpLanes, State.foldl_holdUpLane_merge laneIds s.holdUpBegun (by decide), hmerge]
  exact congrArg (fun l => ({ s.merge with claims := l, held := true } : MergeArbiter)) hnil

theorem State.holdUpLanes_transit (s : State) :
    s.holdUpLanes.transit =
      s.transit.map fun r => if (s.lane r.lane).state.inSession then { r with attached := false } else r := by
  have htransit : s.holdUpBegun.transit = s.transit := (congrArg State.transit s.holdUpBegun_frame :)
  rw [State.holdUpLanes, State.foldl_holdUpLane_transit laneIds s.holdUpBegun (by decide), htransit]
  simp only [mem_laneIds, true_and, State.holdUpBegun_lane]

/-- Settles O14: the frame of the entry (`State.enterHoldUp_eq_parked`), its lanes (`State.enterHoldUp_parks`) and its links
(`State.enterHoldUp_link`). -/
theorem supwarnEntersHoldUp : Obligations.SupwarnEntersHoldUp := by
  intro s hup
  refine ⟨fun hhold => ?_, fun hnormal hclaims hslots => ⟨_, exec_supwarnAsserted_normal hup hnormal, ?_⟩⟩
  · rw [exec_supwarnAsserted hup, State.warn, if_pos (by simp [State.inHoldUp, hhold])]
  · have hframe := s.enterHoldUp_eq_parked
    have hparks := State.enterHoldUp_parks hup hslots
    have hlink := State.enterHoldUp_link hclaims
    have hoffice := s.enterHoldUp_port_office
    have hpower : ∀ k, (s.enterHoldUp.port (.lane k)).power = true := fun k => by rw [State.enterHoldUp_port s (by simp)]
    have hcheckout : s.enterHoldUp.port .checkout = { s.port .checkout with power := true } := by
      rw [State.enterHoldUp_port s (by simp), State.holdUpLanes_port_checkout]
    rw [State.holdUpLanes_merge hclaims, State.holdUpLanes_transit] at hframe
    generalize s.enterHoldUp = t at *
    obtain ⟨_, _, hcheckoutNone, hofficeNone⟩ := hclaims
    refine ⟨(congrArg State.supply hframe :), (congrArg State.belt hframe :), (congrArg State.merge hframe :),
      fun k => (hparks k).1, fun k => (hparks k).2, (congrArg State.transit hframe :),
      (congrArg (fun t : State => t.plans.staged) hframe :), (congrArg (fun t : State => t.plans.active.corner) hframe :),
      (congrArg (fun t : State => t.plans.active.bins) hframe :), fun k => ?_, fun l => ?_, fun k p hp => ?_, hcheckout, hoffice, ?_⟩
    · rw [(congrArg (fun t : State => t.plans.active.lanes) hframe :)]
      exact getElem_mapAll _ _ _ _
    · cases l with
      | lane k =>
        obtain ⟨_, _, _, hnone⟩ := hlink k _ rfl
        exact ⟨hpower k, hnone⟩
      | checkout =>
        rw [hcheckout]
        exact ⟨rfl, hcheckoutNone⟩
      | office =>
        rw [hoffice]
        exact ⟨rfl, hofficeNone⟩
    · obtain ⟨hanswers, hrests, hnotices, _⟩ := hlink k p hp
      exact ⟨hanswers, hrests, hnotices⟩
    · exact State.ext_fields rfl rfl (congrArg State.chute hframe :) (congrArg State.recog hframe :) rfl rfl rfl
        (congrArg State.bins hframe :) (congrArg State.reject hframe :) rfl rfl rfl (congrArg State.choices hframe :)
        (congrArg State.pending hframe :)

end Sys2Proof.Machine
end

section
/-! The supply closes of a HOLD-UP (R49, R53, R150): the vouchers, the stack and the figures, and the ENDs that they answer. -/

namespace Sys2Proof.Machine

theorem VoucherTable.eq_of_figures {t : VoucherTable} {stack : List SlotId} {serial : Serial} {outstanding : Nat}
    {totals : Totals} (hstack : t.stack = stack) (hserial : t.serial = serial) (hout : t.outstanding = outstanding)
    (htotals : t.totals = totals) :
    t = { slots := t.slots, stack := stack, serial := serial, outstanding := outstanding, totals := totals } := by
  subst hstack hserial hout htotals
  rfl

theorem VoucherSlot.eq_free_of_unused {x : VoucherSlot} (h : x.used = false) : x = .free := by
  cases x with
  | free => rfl
  | issued v => cases h
  | claimed v c e => cases h

/-- Without an amount a close answers with no serial. -/
theorem closeResponse_serial {i : SlotId} {m n : Serial} {amount : Nat} (h : 0 < amount → m = n) (count unconfirmed : Nat)
    (power : Bool) : closeResponse i m amount count unconfirmed power = closeResponse i n amount count unconfirmed power := by
  unfold closeResponse
  split
  next hpos => rw [h hpos]
  next => rfl

/-- The vouchers of the supply closes (R53). -/
def State.supplyVouchers (s : State) (k : LaneId) : Voucher := (s.lane k).supplyVoucher k

section
variable {s : State} (hup : s.isUp = true) (h : s.SlotsConserved)
include hup h

theorem State.payingLanes_eq : s.payingLanes = payingAmong s.held s.supplyVouchers laneIds := by
  obtain ⟨_, _, _, _, hsessions⟩ := h
  refine List.filter_congr fun k _ => ?_
  rw [State.held, hsessions hup k]
  rfl

/-- The table after HOLD-UP has reached the first lanes. -/
theorem State.holdUp_table (ks : List LaneId) (hnodup : ks.Nodup) :
    (ks.foldl State.holdUpLane s.holdUpBegun).table = s.table.settleAll s.held s.supplyVouchers ks := by
  obtain ⟨_, _, _, _, hsessions⟩ := h
  have htable : s.holdUpBegun.table = s.table := (congrArg State.table s.holdUpBegun_frame :)
  rw [State.foldl_holdUpLane_table ks s.holdUpBegun hnodup fun k _ => by rw [State.holdUpBegun_lane]; exact hsessions hup k, htable]
  exact VoucherTable.settleAll_congr (fun k _ => by rw [State.held, State.holdUpBegun_lane]; exact ⟨rfl, rfl⟩) _

theorem State.enterHoldUp_table : s.enterHoldUp.table = s.table.settleAll s.held s.supplyVouchers laneIds :=
  (congrArg State.table s.enterHoldUp_eq_parked :).trans (State.holdUp_table hup h laneIds (by decide))

/-- The session of one lane in a HOLD-UP is closed with the serial of its place in lane order, and its END answered (R49,
R53, R150). -/
theorem State.enterHoldUp_closes {k : LaneId} {i : SlotId} (hslot : (s.lane k).slot = some i) {serial : Serial}
    (hserial : serial = s.table.serial + BitVec.ofNat 16 (s.payingLanes.filter fun j => decide (j ≤ k)).length) :
    (s.enterHoldUp.lane k).lastClose = some
        { voucher := if 0 < s.owed k then some (i, serial) else none
          amount := s.owed k, count := (s.lane k).firmCount + (s.lane k).transitCount
          unconfirmed := (s.lane k).transitCount, powerClosed := true } ∧
      ((s.lane k).state = .settling → (s.port (.lane k)).inFlight = some .endSession →
        LinkPort.AnsweredByEvent { (s.port (.lane k)).noticed true with power := true } (s.enterHoldUp.port (.lane k))
          (closeResponse i serial (s.owed k) ((s.lane k).firmCount + (s.lane k).transitCount) (s.lane k).transitCount
            true).frame ((s.port (.lane k)).noticed true).notices) := by
  have hsession : (s.lane k).state.inSession = true := by
    obtain ⟨_, _, _, _, hsessions⟩ := h
    rw [← hsessions hup k, hslot]
    rfl
  obtain ⟨pre, post, u, hsplit, hu, hlane, hport, _, hresult, hlink⟩ := State.holdUpLanes_at s.holdUpBegun k
  rw [State.holdUpBegun_lane] at hlane
  have hnodup : (pre ++ k :: post).Nodup := hsplit ▸ (by decide : laneIds.Nodup)
  have hnext : 0 < s.owed k → u.table.serial + 1 = serial := fun hpos => by
    have hrising : (pre ++ k :: post).Pairwise (· < ·) := hsplit ▸ laneIds_rising
    obtain ⟨hfigure, _⟩ := VoucherTable.settleAll_figures (slot := s.held) (v := s.supplyVouchers) pre s.table
    rw [hu, State.holdUp_table hup h pre (List.Nodup.of_append_left hnodup), hfigure, hserial, State.payingLanes_eq hup h, hsplit,
      payingAmong_filter_le hrising hslot hpos, List.length_append, BitVec.ofNat_add, ← BitVec.add_assoc]
    rfl
  have hrefused : ((u.claimRefused k).lane k).slot = some i := by rw [State.claimRefused_lane, hlane]; exact hslot
  have hclose := u.holdUpLane_of_session k (by rw [hlane]; exact hsession)
  obtain ⟨hclosed, _⟩ := State.closeWith_closed (u.claimRefused k) k (u.lane k).transitCredit (u.lane k).transitCount true hrefused
  rw [← hclose, State.claimRefused_lane, State.claimRefused_table, hlane] at hclosed
  refine ⟨?_, fun hst hend => ?_⟩
  · rw [State.enterHoldUp_lane, State.holdUpLanes, hresult, hclosed]
    have howed : (s.lane k).firmCredit + (s.lane k).transitCredit = s.owed k := rfl
    rw [howed]
    by_cases hpos : 0 < s.owed k
    · rw [if_pos hpos, if_pos hpos, hnext hpos]
    · rw [if_neg hpos, if_neg hpos]
  · have hsame : u.claimRefused k = u := if_neg fun hc => by rw [hlane, hst] at hc; cases hc.1
    rw [State.holdUpBegun_noticed] at hport
    have hflight : (u.port (.lane k)).inFlight = some .endSession := by rw [hport, LinkPort.noticed_eq]; exact hend
    rw [hsame] at hclose hrefused
    have hanswers := State.closeWith_answers u k (u.lane k).transitCredit (u.lane k).transitCount true hrefused hflight
    rw [← hclose, ← hlink, hlane, hport, Bool.or_true, LinkPort.noticed_twice, Bool.or_true,
      LinkPort.noticed_eq (s.port (.lane k)) (!s.merge.held)] at hanswers
    rw [State.enterHoldUp_port s (by simp), State.holdUpLanes, ← closeResponse_serial hnext]
    have hanswered := hanswers.of_notices
    rw [LinkPort.noticed_eq]
    exact LinkPort.AnsweredByEvent.powered (p := { s.port (.lane k) with notices := ((s.port (.lane k)).noticed true).notices })
      hanswered

end

/-- Settles O15: the table is that of `VoucherTable.settleAll`, and each session is closed in its place
(`State.enterHoldUp_closes`). -/
theorem supplyClosePays : Obligations.SupplyClosePays := by
  intro s hup hnormal hslots
  have htable := State.enterHoldUp_table hup hslots
  obtain ⟨hserial, hout, htotals⟩ := VoucherTable.settleAll_figures (slot := s.held) (v := s.supplyVouchers) laneIds s.table
  have hstack := VoucherTable.settleAll_stack (slot := s.held) (v := s.supplyVouchers) laneIds s.table
  rw [← htable, ← State.payingLanes_eq hup hslots] at hserial hout htotals
  rw [← htable] at hstack
  refine ⟨_, exec_supwarnAsserted_normal hup hnormal, ?_, fun i hi => ?_, VoucherTable.eq_of_figures hstack hserial hout htotals⟩
  · rintro k i serial _ _ _ hslot hplace rfl rfl rfl
    obtain ⟨hclose, hanswers⟩ := State.enterHoldUp_closes hup hslots hslot hplace
    have ⟨_, _, hholder, _, _⟩ := hslots
    obtain ⟨hunused, hown⟩ := hholder i k hslot
    obtain ⟨hpays, hpushes⟩ := VoucherTable.settleAll_slot_of_held (v := s.supplyVouchers) laneIds_rising (mem_laneIds k)
      (slot := s.held) hslot hown s.table
    rw [← htable, ← State.payingLanes_eq hup hslots, ← hplace] at hpays
    rw [← htable] at hpushes
    refine ⟨hclose, hpays, fun hzero => ?_, hanswers⟩
    obtain ⟨hsame, hmem⟩ := hpushes hzero
    exact ⟨hsame.trans (VoucherSlot.eq_free_of_unused hunused), hmem⟩
  · rw [htable]
    exact VoucherTable.settleAll_slot_of_not_held (fun k _ => hi k) s.table

end Sys2Proof.Machine
end

section
/-! Warm starts (R115, R134, R146, R148, R149): what a recovery does lane after lane, what a start makes of the corner, and a start
that resumes one cut short. -/

namespace Sys2Proof.Machine

/-! ### The lanes recovered one after another (R148) -/

/-- The voucher of a recovered session (R148). -/
def State.recoveredVouchers (s : State) (k : LaneId) : Voucher := (s.lane k).recoveredVoucher k

/-- What the recovery of one lane changes. -/
theorem State.recoverLane_eq (s : State) (k : LaneId) :
    s.recoverLane k = { s.setLane k .cold with
      table := s.table.settleHeld (s.held k) (s.recoveredVouchers k)
      supply := { s.supply with recovered := s.supply.recovered + if (s.held k).isSome then 1 else 0 } } := by
  simp only [State.recoverLane]
  unfold State.held
  cases (s.lane k).slot <;> rfl

theorem State.foldl_recoverLane_lane_ne (ks : List LaneId) (t : State) {k : LaneId} (hk : k ∉ ks) :
    (ks.foldl State.recoverLane t).lane k = t.lane k :=
  List.foldlRecOn (motive := fun u : State => u.lane k = t.lane k) ks State.recoverLane rfl fun u hu j hj => by
    rw [State.recoverLane_lane, if_neg (ne_of_mem_of_not_mem hj hk).symm]
    exact hu

/-- The recovery of some lanes, in the order of the list: the table, the count, and what it leaves alone. -/
theorem State.foldl_recoverLane (ks : List LaneId) (hnodup : ks.Nodup) (t : State) :
    ks.foldl State.recoverLane t = { t with
      lanes := (ks.foldl State.recoverLane t).lanes, table := t.table.settleAll t.held t.recoveredVouchers ks
      supply := { t.supply with recovered := t.supply.recovered + (ks.filter fun k => (t.held k).isSome).length } } := by
  induction ks generalizing t with
  | nil => rfl
  | cons k rest ih =>
    obtain ⟨hfresh, hrest⟩ := List.nodup_cons.mp hnodup
    have hlane : ∀ j ∈ rest, (t.recoverLane k).lane j = t.lane j := fun j hj => by
      rw [State.recoverLane_lane, if_neg (ne_of_mem_of_not_mem hj hfresh)]
    have htable : (t.recoverLane k).table.settleAll (t.recoverLane k).held (t.recoverLane k).recoveredVouchers rest =
        t.table.settleAll t.held t.recoveredVouchers (k :: rest) := by
      rw [VoucherTable.settleAll_congr (slot' := t.held) (v' := t.recoveredVouchers) fun j hj => by
        rw [State.held, State.recoveredVouchers, hlane j hj]; exact ⟨rfl, rfl⟩, State.recoverLane_settles]
      rfl
    have hcount : (rest.filter fun j => ((t.recoverLane k).held j).isSome) = rest.filter fun j => (t.held j).isSome :=
      List.filter_congr fun j hj => by rw [State.held, hlane j hj, ← State.held]
    rw [List.foldl_cons]
    refine (ih hrest (t.recoverLane k)).trans ?_
    rw [htable, hcount]
    generalize rest.foldl State.recoverLane (t.recoverLane k) = u
    have hsum : t.supply.recovered + (if (t.held k).isSome then 1 else 0) + (rest.filter fun j => (t.held j).isSome).length =
        t.supply.recovered + ((k :: rest).filter fun j => (t.held j).isSome).length := by
      rw [List.filter_cons]
      split
      · rw [List.length_cons]
        omega
      · rfl
    rw [t.recoverLane_eq k, ← hsum]
    rfl

/-! ### The work of a warm start -/

theorem State.held_loseVolatile (s : State) : s.loseVolatile.held = s.held := by
  funext k
  rw [State.held, State.loseVolatile_lane]
  rfl

theorem State.recoveredVouchers_loseVolatile (s : State) : s.loseVolatile.recoveredVouchers = s.recoveredVouchers := by
  funext k
  rw [State.recoveredVouchers, State.loseVolatile_lane]
  rfl

/-- The lanes recovered of a part that has lost its volatile domain (R148). -/
theorem State.recoverLanes_loseVolatile (s : State) :
    s.loseVolatile.recoverLanes 4 = { s.loseVolatile with
      lanes := (s.loseVolatile.recoverLanes 4).lanes
      table := s.table.settleAll s.held s.recoveredVouchers laneIds
      supply := { s.loseVolatile.supply with recovered := (laneIds.filter fun k => (s.held k).isSome).length } } := by
  have hfold := State.foldl_recoverLane laneIds (by decide)
    { s.loseVolatile with supply := { s.loseVolatile.supply with recovered := 0 } }
  have hheld : State.held { s.loseVolatile with supply := { s.loseVolatile.supply with recovered := 0 } } = s.held :=
    s.held_loseVolatile
  have hvouchers : State.recoveredVouchers { s.loseVolatile with supply := { s.loseVolatile.supply with recovered := 0 } } =
      s.recoveredVouchers := s.recoveredVouchers_loseVolatile
  have hall : s.loseVolatile.recoverLanes 4 =
      laneIds.foldl State.recoverLane { s.loseVolatile with supply := { s.loseVolatile.supply with recovered := 0 } } := rfl
  rw [hheld, hvouchers, ← hall, Nat.zero_add] at hfold
  exact hfold

/-- The last part of a warm start's work: the bins, the claims, and at-limit (R112, R115, R134). -/
def State.retainedSettled (s : State) : State :=
  State.evalAtLimit
    { s with bins := mapAll Bin.afterStart s.bins, table := { s.table with slots := mapAll VoucherSlot.afterStart s.table.slots } }

theorem State.warmWork_eq (s : State) : s.warmWork = (s.loseVolatile.recoverLanes 4).retainedSettled := rfl

/-- The table of a warm start (R134, R148). -/
theorem State.warmWork_table (s : State) :
    s.warmWork.table = { s.table.settleAll s.held s.recoveredVouchers laneIds with
      slots := mapAll VoucherSlot.afterStart (s.table.settleAll s.held s.recoveredVouchers laneIds).slots } := by
  have htable : (s.loseVolatile.recoverLanes 4).table = s.table.settleAll s.held s.recoveredVouchers laneIds :=
    (congrArg State.table s.recoverLanes_loseVolatile :)
  rw [State.warmWork_eq, ← htable]
  rfl

theorem State.warmWork_slot (s : State) (i : SlotId) :
    s.warmWork.table.slot i = ((s.table.settleAll s.held s.recoveredVouchers laneIds).slot i).afterStart := by
  rw [State.warmWork_table]
  exact getElem_mapAll _ _ _ _

/-- What a warm start's work leaves alone, beside what its losses have changed (R145, R149). -/
theorem State.warmWork_frame (s : State) :
    s.warmWork = { s.loseVolatile with
      lanes := s.warmWork.lanes, bins := s.warmWork.bins, table := s.warmWork.table
      reject := { s.reject with atLimit := decide (s.corner.rejectLimit ≤ s.reject.count) }
      supply := { s.loseVolatile.supply with recovered := (laneIds.filter fun k => (s.held k).isSome).length } } := by
  have hrecovered := s.recoverLanes_loseVolatile
  have hsettled : ∀ u : State, u.retainedSettled = { u with
      bins := u.retainedSettled.bins, table := u.retainedSettled.table
      reject := { u.reject with atLimit := decide (u.corner.rejectLimit ≤ u.reject.count) } } := fun _ => rfl
  rw [State.warmWork_eq]
  generalize s.loseVolatile.recoverLanes 4 = u at hrecovered ⊢
  have hreject : u.reject = s.reject := (congrArg State.reject hrecovered :)
  have hcorner : u.corner = s.corner := (congrArg State.corner hrecovered :)
  refine (hsettled u).trans ?_
  rw [hreject, hcorner]
  exact State.ext_fields (congrArg State.ports hrecovered :) (congrArg State.belt hrecovered :)
    (congrArg State.chute hrecovered :) (congrArg State.recog hrecovered :) rfl (congrArg State.merge hrecovered :)
    (congrArg State.transit hrecovered :) rfl rfl rfl (congrArg State.plans hrecovered :) (congrArg State.supply hrecovered :)
    (congrArg State.choices hrecovered :) (congrArg State.pending hrecovered :)

theorem Plan.parkModes_parkModes (p : Plan) : p.parkModes.parkModes = p.parkModes := by
  have hlanes : p.parkModes.parkModes.lanes = p.parkModes.lanes := by
    refine Vector.ext fun i hi => ?_
    simp [Plan.parkModes]
  exact congrArg (fun lanes => ({ p with lanes := lanes } : Plan)) hlanes

/-! ### A warm start (R146, R149) -/

/-- A warm start: its work, what it reads and sets last, and HOLD-UP where SUPWARN is asserted (R149, R152). -/
theorem State.fullStart_warm {s : State} (hmarker : s.supply.marker = true) (o : StartOrigin) (lines : StartLines) :
    s.fullStart o lines =
      if lines.supwarn then (s.warmWork.finishStart (warmCause (s.startOrigin o)) lines).setSupplyState .holdUp
      else s.warmWork.finishStart (warmCause (s.startOrigin o)) lines := by
  have hframe := s.warmWork_frame
  have hlane := s.warmWork_lane
  simp only [State.fullStart, hmarker, if_true]
  generalize s.warmWork = w at hframe hlane ⊢
  have hmerge : w.merge = { claims := [], mergeHold := false, held := true } := (congrArg State.merge hframe :)
  have hactive : w.plans.active = s.plans.active.parkModes := (congrArg (fun t : State => t.plans.active) hframe :)
  have hhold : ∀ c : ResetCause, (w.finishStart c lines).enterHoldUp = (w.finishStart c lines).setSupplyState .holdUp := fun c =>
    State.enterHoldUp_of_started rfl rfl (congrArg MergeArbiter.held hmerge) (fun k => congrArg Lane.state (hlane k))
      ((congrArg Plan.parkModes hactive).trans ((Plan.parkModes_parkModes _).trans hactive.symm)) (State.finishStart_port _ _ _)
  rw [hhold]

theorem exec_start (o : StartOrigin) (lines : StartLines) (s : State) :
    exec (.start o lines none) s = .next (s.fullStart o lines) := rfl

/-- What a warm start leaves, in every line it reads. -/
theorem State.fullStart_fields {s : State} (hmarker : s.supply.marker = true) (o : StartOrigin) (lines : StartLines) :
    s.fullStart o lines = { s.warmWork with
      ports := startedPorts, belt := .started lines.eyeBlocked lines.estopPressed
      supply := { s.warmWork.supply with
        phase := .running, state := if lines.supwarn then .holdUp else .normal, cause := warmCause (s.startOrigin o)
        backupLow := lines.backupLow, backupLost := lines.backupLost, marker := true } } := by
  rw [State.fullStart_warm hmarker]
  generalize s.warmWork = w
  cases lines.supwarn <;> rfl

theorem VoucherSlot.afterStart_cases (x : VoucherSlot) :
    (x = .free → x.afterStart = .free) ∧ (∀ v, x = .issued v → x.afterStart = .issued v) ∧
      ∀ v c e, x = .claimed v c e → x.afterStart = .issued v :=
  ⟨fun h => by rw [h]; rfl, fun v h => by rw [h]; rfl, fun v c e h => by rw [h]; rfl⟩

theorem Bin.afterStart_eq (b : Bin) : b.afterStart = { b with reserved := 0, state := b.drained 0 } := by
  have hstate : b.afterStart.state = b.drained 0 := by
    unfold Bin.afterStart Bin.drained
    cases b.state with
    | draining target => cases target <;> rfl
    | out | serving | released => rfl
  rw [← hstate]
  rfl

theorem State.warmCause_startOrigin (s : State) (o : StartOrigin) :
    warmCause (s.startOrigin o) = if s.supply.phase = .supplyLost ∨ o = .powerOn then .supply else .pin := by
  unfold State.startOrigin
  by_cases hphase : s.supply.phase = .supplyLost
  · rw [if_pos hphase, if_pos (.inl hphase)]
    rfl
  · rw [if_neg hphase]
    cases o <;> simp [warmCause, hphase]

/-- The figures of the table after a warm start (R117, R148). -/
theorem State.warmWork_figures (s : State) :
    s.warmWork.table =
      { slots := s.warmWork.table.slots, stack := s.stackAfterPushes
        serial := s.table.serial + BitVec.ofNat 16 s.recoveringLanes.length
        outstanding := s.table.outstanding + (s.recoveringLanes.map s.owed).sum
        totals := { s.table.totals with issued := saturatingSum s.table.totals.issued (s.recoveringLanes.map s.owed) } } := by
  have hrecovering : s.recoveringLanes = payingAmong s.held s.recoveredVouchers laneIds := rfl
  obtain ⟨hserial, hout, htotals⟩ := VoucherTable.settleAll_figures (slot := s.held) (v := s.recoveredVouchers) laneIds s.table
  have hstack := VoucherTable.settleAll_stack (slot := s.held) (v := s.recoveredVouchers) laneIds s.table
  have htable := s.warmWork_table
  rw [← hrecovering] at hserial hout htotals
  generalize s.table.settleAll s.held s.recoveredVouchers laneIds = t at *
  refine VoucherTable.eq_of_figures ?_ ?_ ?_ ?_ <;> rw [htable]
  · exact hstack
  · exact hserial
  · exact hout
  · exact htotals

/-- Settles O19: what the work of the start leaves (`State.warmWork_frame`, `State.warmWork_figures`) and what it reads and sets
last (`State.fullStart_fields`). -/
theorem warmStart : Obligations.WarmStart := by
  intro o lines s hmarker
  have hfields := State.fullStart_fields hmarker o lines
  have hframe := s.warmWork_frame
  have hlane := s.warmWork_lane
  have hbin := s.warmWork_bin
  have hfigures := s.warmWork_figures
  have hslot := s.warmWork_slot
  have hports : startedPorts = State.reset.ports := rfl
  refine ⟨_, exec_start o lines s, ?_⟩
  rw [hfields, hports]
  generalize s.warmWork = w at *
  refine ⟨rfl, rfl, (congrArg State.chute hframe :), (congrArg State.recog hframe :), hlane, (congrArg State.merge hframe :),
    (congrArg State.transit hframe :), fun b => (hbin b).trans (Bin.afterStart_eq _), (congrArg State.reject hframe :),
    fun i hi => ?_, hfigures, ?_, ?_, ?_, fun k => ?_, rfl, rfl, s.warmCause_startOrigin o, rfl, rfl, rfl⟩
  · have hkept : (s.table.settleAll s.held s.recoveredVouchers laneIds).slot i = s.table.slot i :=
      VoucherTable.settleAll_slot_of_not_held (fun k _ => hi k) s.table
    have hsame : w.table.slot i = (s.table.slot i).afterStart := (hslot i).trans (congrArg VoucherSlot.afterStart hkept)
    obtain ⟨hfree, hissued, hclaimed⟩ := (s.table.slot i).afterStart_cases
    exact ⟨fun h => hsame.trans (hfree h), fun v h => hsame.trans (hissued v h), fun v c e h => hsame.trans (hclaimed v c e h)⟩
  · exact (congrArg (fun t : State => t.plans.staged) hframe :).trans (congrArg (fun t : State => t.plans.active) hframe :).symm
  · exact (congrArg (fun t : State => t.plans.active.corner) hframe :)
  · exact (congrArg (fun t : State => t.plans.active.bins) hframe :)
  · have hlanes : w.plans.active.lanes = s.plans.active.parkModes.lanes :=
      (congrArg (fun t : State => t.plans.active.lanes) hframe :)
    exact (congrArg (fun v : Vector LanePart 4 => v[k]) hlanes).trans (getElem_mapAll _ _ _ _)

/-- Settles O20: each retained session is settled in its place in lane order (`VoucherTable.settleAll_slot_of_held`). -/
theorem warmStartRecovers : Obligations.WarmStartRecovers := by
  intro o lines s hmarker hslots
  have hfields := State.fullStart_fields hmarker o lines
  have hcount : s.warmWork.supply.recovered = (laneIds.filter fun k => (s.lane k).slot.isSome).length :=
    (congrArg (fun t : State => t.supply.recovered) s.warmWork_frame :)
  have hfigures := s.warmWork_figures
  have hslot := s.warmWork_slot
  have hstack : (s.table.settleAll s.held s.recoveredVouchers laneIds).stack = s.warmWork.table.stack :=
    (congrArg VoucherTable.stack s.warmWork_table :).symm
  obtain ⟨_, _, hholder, hcover, _⟩ := hslots
  refine ⟨_, exec_start o lines s, ?_⟩
  rw [hfields]
  generalize s.warmWork = w at *
  have hheld : ∀ k i, (s.lane k).slot = some i →
      (0 < s.owed k → w.table.slot i = .issued { s.recoveredVouchers k with
        serial := s.table.serial + BitVec.ofNat 16 (s.recoveringLanes.filter fun j => decide (j ≤ k)).length }) ∧
      (s.owed k = 0 → w.table.slot i = .free ∧ i ∈ w.table.stack) := by
    intro k i hk
    obtain ⟨hunused, hown⟩ := hholder i k hk
    obtain ⟨hpays, hpushes⟩ := VoucherTable.settleAll_slot_of_held (slot := s.held) (v := s.recoveredVouchers) laneIds_rising
      (mem_laneIds k) hk hown s.table
    refine ⟨fun hpos => (hslot i).trans (congrArg VoucherSlot.afterStart (hpays hpos)), fun hzero => ?_⟩
    obtain ⟨hsame, hmem⟩ := hpushes hzero
    rw [hslot, hsame, VoucherSlot.eq_free_of_unused hunused, ← hstack]
    exact ⟨rfl, hmem⟩
  refine ⟨hcount, hheld, (congrArg VoucherTable.serial hfigures :), (congrArg VoucherTable.outstanding hfigures :), fun i => ?_⟩
  have hgoal : i ∈ w.table.stack ∨ (w.table.slot i).used = true := by
    obtain hi | ⟨k, hk⟩ | hi := hcover i
    · refine .inl ?_
      rw [← hstack, VoucherTable.settleAll_stack]
      exact List.mem_append_right _ hi
    · obtain ⟨hpays, hpushes⟩ := hheld k i hk
      obtain hzero | hpos := Nat.eq_zero_or_pos (s.owed k)
      · exact .inl (hpushes hzero).2
      · exact .inr (by rw [hpays hpos]; rfl)
    · refine .inr ?_
      have hkept : (s.table.settleAll s.held s.recoveredVouchers laneIds).slot i = s.table.slot i :=
        VoucherTable.settleAll_slot_of_not_held (fun k _ hk => by rw [(hholder i k hk).1] at hi; cases hi) s.table
      rw [hslot, hkept]
      revert hi
      cases s.table.slot i <;> exact id
  exact hgoal

/-! ### A start that was cut short (R146) -/

/-- The recovered-session count replaced. -/
def State.withRecovered (s : State) (n : Nat) : State := { s with supply := { s.supply with recovered := n } }

theorem State.recoverLane_withRecovered (s : State) (n : Nat) (k : LaneId) :
    ∃ m, (s.withRecovered n).recoverLane k = (s.recoverLane k).withRecovered m := by
  rw [State.recoverLane_eq, State.recoverLane_eq]
  exact ⟨_, rfl⟩

theorem State.foldl_recoverLane_withRecovered (ks : List LaneId) (s : State) (n : Nat) :
    ∃ m, ks.foldl State.recoverLane (s.withRecovered n) = (ks.foldl State.recoverLane s).withRecovered m := by
  induction ks generalizing s n with
  | nil => exact ⟨n, rfl⟩
  | cons k rest ih =>
    obtain ⟨m, hm⟩ := s.recoverLane_withRecovered n k
    rw [List.foldl_cons, List.foldl_cons, hm]
    exact ih _ m

/-- A lane that is recovered already is recovered with no effect. -/
theorem State.recoverLane_of_cold {s : State} {k : LaneId} (h : s.lane k = .cold) : s.recoverLane k = s := by
  have hheld : s.held k = none := by rw [State.held, h]; rfl
  have hlanes : (s.setLane k .cold).lanes = s.lanes := State.lanes_ext fun j => by
    rw [State.lane_setLane]
    split
    next hj => rw [hj, h]
    next => rfl
  rw [State.recoverLane_eq, hheld]
  exact State.ext_fields rfl rfl rfl rfl hlanes rfl rfl rfl rfl rfl rfl rfl rfl rfl

theorem State.foldl_recoverLane_of_cold {ks : List LaneId} {s : State} (h : ∀ k ∈ ks, s.lane k = .cold) :
    ks.foldl State.recoverLane s = s := by
  induction ks with
  | nil => rfl
  | cons k rest ih =>
    rw [List.foldl_cons, State.recoverLane_of_cold (h k (by simp))]
    exact ih fun j hj => h j (List.mem_cons_of_mem k hj)

theorem State.recoverLanes_eq (s : State) (n : Nat) :
    s.recoverLanes n = (laneIds.take n).foldl State.recoverLane (s.withRecovered 0) := rfl

theorem State.recoverLanes_cold (s : State) (n : Nat) {k : LaneId} (hk : k ∈ laneIds.take n) : (s.recoverLanes n).lane k = .cold := by
  have hnodup : (laneIds.take n).Nodup := (by decide : laneIds.Nodup).sublist (List.take_sublist n laneIds)
  have h := foldl_visits (P := fun _ => True) (part := State.lane) (f := State.recoverLane) (g := fun _ _ => .cold)
    (fun _ _ _ => trivial) (fun t j _ => (t.recoverLane_lane j j).trans (if_pos rfl))
    (fun t j i _ hi => (t.recoverLane_lane j i).trans (if_neg hi)) hnodup (s := s.withRecovered 0) trivial k
  rwa [if_pos hk] at h

/-- A part that has lost its volatile domain, and recovered some lanes since, has no more to lose (R145). -/
theorem State.loseVolatile_recoverLanes (s : State) (n : Nat) :
    (s.loseVolatile.recoverLanes n).loseVolatile = s.loseVolatile.recoverLanes n := by
  have hnodup : (laneIds.take n).Nodup := (by decide : laneIds.Nodup).sublist (List.take_sublist n laneIds)
  have hframe := State.foldl_recoverLane (laneIds.take n) hnodup (s.loseVolatile.withRecovered 0)
  rw [← State.recoverLanes_eq] at hframe
  have hlane := fun k => s.recoverLanes_lost_lane n k
  generalize s.loseVolatile.recoverLanes n = x at hframe hlane ⊢
  have hlanes : x.loseVolatile.lanes = x.lanes := State.lanes_ext fun k => by
    rw [State.loseVolatile_lane]
    obtain h | h := hlane k <;> rw [h] <;> rfl
  have hrecog : x.recog = { s.recog with cursor := none } := (congrArg State.recog hframe :)
  have hplans : x.plans = { staged := s.plans.active.parkModes, active := s.plans.active.parkModes } :=
    (congrArg State.plans hframe :)
  have hsupply : x.supply.state = .normal := (congrArg (fun t : State => t.supply.state) hframe :)
  refine State.ext_fields (congrArg State.ports hframe :).symm (congrArg State.belt hframe :).symm
    (congrArg State.chute hframe :).symm ?_ hlanes (congrArg State.merge hframe :).symm (congrArg State.transit hframe :).symm rfl
    rfl rfl ?_ ?_ rfl rfl
  · exact (congrArg (fun r : Recognition => { r with cursor := none }) hrecog).trans hrecog.symm
  · have hparked : x.loseVolatile.plans = { staged := x.plans.active.parkModes, active := x.plans.active.parkModes } := rfl
    rw [hparked, hplans, Plan.parkModes_parkModes]
  · have hnormal : x.loseVolatile.supply = { x.supply with state := .normal } := rfl
    rw [hnormal, ← hsupply]

/-- A cut start leaves the phase and the marker as a loss of main supply finds them (R146). -/
theorem State.cutStart_supply (s : State) (n : Nat) :
    (s.cutStart n).supply.phase = .supplyLost ∧ (s.cutStart n).supply.marker = s.supply.marker := by
  refine ⟨rfl, ?_⟩
  unfold State.cutStart
  split
  · exact foldl_lanes_keeps (P := fun t => t.supply.marker = s.supply.marker) (s := s.loseVolatile.withRecovered 0)
      (fun t k ht => by rw [State.recoverLane_eq]; exact ht) rfl (laneIds.take n)
  · rfl

theorem State.cutStart_of_marker {s : State} (hmarker : s.supply.marker = true) (hphase : s.supply.phase = .supplyLost) (n : Nat) :
    s.cutStart n = s.loseVolatile.recoverLanes n := by
  have hkept : (s.loseVolatile.recoverLanes n).supply.phase = .supplyLost :=
    foldl_lanes_keeps (P := fun t => t.supply.phase = .supplyLost) (s := s.loseVolatile.withRecovered 0)
      (fun t k ht => by rw [State.recoverLane_eq]; exact ht) hphase (laneIds.take n)
  rw [State.cutStart, if_pos hmarker]
  generalize s.loseVolatile.recoverLanes n = x at hkept ⊢
  rw [State.setPhase, ← hkept]

/-- A warm start resumes the recoveries of one cut short: their effects together are those of one (R146). -/
theorem State.warmWork_cutStart {s : State} (hmarker : s.supply.marker = true) (hphase : s.supply.phase = .supplyLost) (n : Nat) :
    ∃ m, (s.cutStart n).warmWork = s.warmWork.withRecovered m := by
  have hsplit : ∀ t : State, t.recoverLanes 4 = (laneIds.drop n).foldl State.recoverLane (t.recoverLanes n) := fun t => by
    rw [State.recoverLanes_eq t n, ← List.foldl_append, List.take_append_drop]
    rfl
  rw [State.cutStart_of_marker hmarker hphase, State.warmWork_eq, State.warmWork_eq, State.loseVolatile_recoverLanes,
    hsplit s.loseVolatile, hsplit, State.recoverLanes_eq (s.loseVolatile.recoverLanes n) n]
  have hcold := fun k hk => s.loseVolatile.recoverLanes_cold n (k := k) hk
  generalize s.loseVolatile.recoverLanes n = x at hcold ⊢
  rw [State.foldl_recoverLane_of_cold (s := x.withRecovered 0) hcold]
  obtain ⟨m, hm⟩ := State.foldl_recoverLane_withRecovered (laneIds.drop n) x 0
  rw [hm]
  exact ⟨m, rfl⟩

/-- Settles O21: the work of the resumed start is that of one start but for the count (`State.warmWork_cutStart`). -/
theorem cutStartResumes : Obligations.CutStartResumes := by
  intro o l lines n s hphase
  obtain ⟨hlost, hsame⟩ := s.cutStart_supply n
  refine ⟨s.cutStart n, rfl, hlost, hsame, fun hmarker => ⟨_, _, exec_start _ lines s, exec_start _ lines _, ?_⟩⟩
  obtain ⟨m, hm⟩ := State.warmWork_cutStart hmarker hphase n
  have horigin : ∀ t : State, warmCause (t.startOrigin .powerOn) = .supply := fun t => by
    rw [State.warmCause_startOrigin, if_pos (.inr rfl)]
  rw [State.fullStart_fields (hsame.trans hmarker), State.fullStart_fields hmarker, horigin, horigin, hm]
  generalize s.warmWork = w
  rfl

end Sys2Proof.Machine
end
